-- ==== Sys2Proof/Word.lean ====
section
/-! DEFINITION. The word types of the NCT-3120 model, by the names the manual uses for them. -/

namespace Sys2Proof

/-- One byte on the management port or of a memory word. -/
abbrev Byte := BitVec 8

/-- A configuration, status or counter word, a sequence number, a record number: 32 bits (R151, 11.4). -/
abbrev Word := BitVec 32

/-- A cell of the record store, a bus beat's value, a memory word: 8 bytes (00_scope, Conventions). -/
abbrev Cell := BitVec 64

/-- A 40-bit byte address on the memory path (R1). -/
abbrev Addr := BitVec 40

/-- Raw or aligned time: 48 bits, modulo 2^48 (R134). -/
abbrev Time := BitVec 48

/-- An initiator number, 0–15; 15 is the part's own (R1). -/
abbrev Initiator := BitVec 4

/-- A tag number, 0–63 (R1). -/
abbrev Tag := BitVec 6

end Sys2Proof
end

