-- ==== Sys2Proof/Config.lean ====
section
/-! DEFINITION. What one part fixes: the numbers the manual fixes for every part (00_scope, Fixed numbers), and the
free values, which the manual leaves open. A free value is a constant with no body, so no proof can see what it is. -/

namespace Sys2Proof.Config

/-- Entries of the transit table (R3). -/
def transitEntries : Nat := 48

/-- Observations the history ring holds (R43). -/
def ringEntries : Nat := 512

/-- Cells of the record store (R85). -/
def storeCells : Nat := 16384

/-- Records the directory holds at most (R85). -/
def directoryEntries : Nat := 256

/-- The largest latency, hold or timeout value of a 24-bit tick field, 2^24 − 1 (R34). -/
def maxTicks24 : Nat := 16777215

/-- The largest abandoned count of one key (R29). -/
def maxAbandoned : Nat := 255

/-- Ticks a TRIGOUT pulse lasts after the last accepted fire (R81). -/
def trigoutTicks : Nat := 8

/-- FREE VALUE (log entry 7; DESIGN CHOICE, safe). Which of the two comes first when one response both makes an
observation and carries a snoop offer: R68, R58 and R171 allow either order. The argument numbers the choice. -/
opaque observationFirst : Nat → Bool

/-- FREE VALUE (log entry 8; DESIGN CHOICE, safe). Which of several events that are due together, or which of several
keys at an abandonment, is taken next: R39 and R29 fix no order. The argument numbers the choice. -/
opaque pick : Nat → Nat

/-- FREE VALUE (log entry 9; DESIGN CHOICE, safe). Whether an edge is seen on a line whose pulse or gap is shorter than
one tick: R80 says it may be seen as one edge or not at all. The argument numbers the choice. -/
opaque edgeSeen : Nat → Bool

/-- FREE VALUE (log entry 10; DESIGN CHOICE, safe). What the bits of a status word read as that the manual gives no
value: the field of an absent item, and bits of the word that Chapter 11 assigns to no field. The arguments are the
word's index and the number of the read. -/
opaque statusBits : Nat → Nat → Word

end Sys2Proof.Config
end

