-- ==== Sys2Proof/Syntax.lean ====
section
/-! DEFINITION. The commands and events of the NCT-3120: one constructor of `Instr` per row of
spec/opcode_table.json, with the messages and frames they carry. -/

namespace Sys2Proof

/-- The kind of a request, a response or a transit entry (R1). -/
inductive Access where
  | read
  | write
  deriving DecidableEq, Repr

/-- The status of a response (R2). -/
inductive Status where
  | okay
  | fault
  deriving DecidableEq, Repr

/-- One beat of write data: a 64-bit value and an 8-bit byte mask (R1). -/
structure Beat where
  value : Cell
  mask : BitVec 8
  deriving DecidableEq, Repr

/-- A request message on a request channel, with the fields of R1. -/
structure Request where
  kind : Access
  initiator : Initiator
  tag : Tag
  address : Addr
  beats : Nat
  data : List Beat
  deriving DecidableEq, Repr

/-- A response message on a response channel, with the fields of R2. -/
structure Response where
  kind : Access
  initiator : Initiator
  tag : Tag
  status : Status
  data : List Cell
  deriving DecidableEq, Repr

/-- One management frame as the part sees it at the rising of MCS (R157, R158): how many whole bytes it had, and
whether a full-reset quiesce was in progress at the falling of MCS that began it. -/
structure Frame where
  bytes : Nat
  beganInQuiesce : Bool
  deriving DecidableEq, Repr

/-- One rise of TRIGIN or SYNCIN (R80, R138): whether the line had been low for at least one tick before it, and whether
it is high for at least one tick after it. -/
structure LineRise where
  lowTick : Bool
  highTick : Bool
  deriving DecidableEq, Repr

/-- The commands and events of the part, in the order of spec/opcode_table.json. Each is taken whole. -/
inductive Instr where
  /-- REQUEST_PRESENTED (R3): the interconnect presents a request on the U-port. -/
  | requestPresented (r : Request)
  /-- TAKE (R4): the part takes the presented request. -/
  | take
  /-- HOLD_EXPIRY (R27): the hold timer reaches the hold limit. -/
  | holdExpiry
  /-- GRANT (R11): the arbiter grants the D-port request channel. -/
  | grant
  /-- D_PORT_TAKE (R12): the memory controller takes the presented request. -/
  | dPortTake
  /-- D_PORT_RESPONSE (R14): the memory controller sends a response. -/
  | dPortResponse (r : Response)
  /-- OVERDUE_EXPIRY (R22): the deadline is reached of the entry at place `age` (0 the oldest) of its key's list. -/
  | overdueExpiry (initiator : Initiator) (tag : Tag) (age : Nat)
  /-- FULL_RESET (R163), from the management port. -/
  | fullReset (f : Frame)
  /-- QUIESCE_COMPLETE (R28): the table is empty during a quiesce. -/
  | quiesceComplete
  /-- QUIESCE_ABANDON (R29): the quiesce timer reaches the quiesce limit. -/
  | quiesceAbandon
  /-- POR_RSTN (R30): power-on reset, or RSTN goes low. -/
  | porRstn
  /-- STAGE_TIMEOUT (R67): the current stage's timer reaches its timeout. -/
  | stageTimeout
  /-- TRIGIN_EDGE (R80): the TRIGIN line rises. -/
  | triginEdge (l : LineRise)
  /-- TRIGOUT_PULSE_END (R81): eight ticks after the last accepted fire. -/
  | trigoutPulseEnd
  /-- READ_ACTIVE (R160). -/
  | readActive (f : Frame) (index : BitVec 16)
  /-- READ_STAGED (R160). -/
  | readStaged (f : Frame) (index : BitVec 16)
  /-- WRITE_STAGED (R160). -/
  | writeStaged (f : Frame) (index : BitVec 16) (data : Word)
  /-- READ_STATUS (R161), of any word but the low word of raw time. -/
  | readStatus (f : Frame) (index : BitVec 16)
  /-- RAW_TIME_SNAPSHOT (R146): READ_STATUS of word 0x470. -/
  | rawTimeSnapshot (f : Frame)
  /-- APPLY (R152). -/
  | apply (f : Frame)
  /-- APPLY_TAKES_EFFECT (R155): the pending apply's obstacles are gone. -/
  | applyTakesEffect
  /-- ARM (R77), from the management port. -/
  | arm (f : Frame)
  /-- DISARM (R78), from the management port. -/
  | disarm (f : Frame)
  /-- FORCE (R79), from the management port. -/
  | force (f : Frame)
  /-- ALIGN_ONCE (R143). -/
  | alignOnce (f : Frame)
  /-- CLEAR_COUNTERS (R178), from the management port. -/
  | clearCounters (f : Frame)
  /-- ACK_CONDITIONS (R174). -/
  | ackConditions (f : Frame) (mask : Word)
  /-- WRITE_ALERT_ENABLE (R175). -/
  | writeAlertEnable (f : Frame) (mask : Word)
  /-- READ_RECORD (R105) from a cell offset. `leftAfter` is the number of cells already sent when the record left the
  directory during the frame, absent when it stayed. -/
  | readRecord (f : Frame) (offset : BitVec 16) (leftAfter : Option Nat)
  /-- DISCARD_HEAD (R106). -/
  | discardHead (f : Frame)
  /-- SPILL_RESUME (R124). -/
  | spillResume (f : Frame)
  /-- SPILL_SKIP (R125). -/
  | spillSkip (f : Frame)
  /-- CAPTURE_RESET (R164). -/
  | captureReset (f : Frame)
  /-- SYNC_PULSE (R138): the SYNCIN line rises. -/
  | syncPulse (l : LineRise)
  /-- LOSS_WATCH_EXPIRY (R144): 2 × SP ticks without a pulse while WATCHING. -/
  | lossWatchExpiry
  /-- UNKNOWN_COMMAND_BYTE (R158): a frame whose command byte names no command. -/
  | unknownCommandByte (f : Frame) (byte : Byte)
  /-- RESET_END (R183): RSTN rises, or the power-on reset ends. -/
  | resetEnd
  deriving DecidableEq, Repr

end Sys2Proof
end

