-- ==== Sys2Proof/WellFormed.lean ====
section
/-! DEFINITION. Which commands can reach the part at all: the values the encodings of R1 and R2 allow, and the frames
that are not another row's. -/

namespace Sys2Proof

/-- R1: the address is a multiple of 8, beats is 1–16, and a WRITE carries exactly beats beats, a READ none. -/
def Request.wellFormed (r : Request) : Bool :=
  r.address.toNat % 8 == 0 && (1 ≤ r.beats && r.beats ≤ 16) &&
    (match r.kind with
     | .write => r.data.length == r.beats
     | .read => r.data.isEmpty)

/-- R2, R34: a READ response carries at most 16 data values, all zero under FAULT; a WRITE response carries none. -/
def Response.wellFormed (r : Response) : Bool :=
  match r.kind with
  | .write => r.data.isEmpty
  | .read => r.data.length ≤ 16 && (r.status == .okay || r.data.all (· == 0))

/-- The command byte values of 11.3. -/
def commandBytes : List Byte :=
  [0x01, 0x02, 0x03, 0x04, 0x10, 0x20, 0x21, 0x22, 0x30, 0x40, 0x41, 0x42, 0x50, 0x51, 0x60, 0x61, 0x70, 0x7F]

/-- The status word whose read takes the snapshot: its own row, RAW_TIME_SNAPSHOT (R146). -/
def rawTimeIndex : BitVec 16 := 0x470

/-- The commands that can reach the part (R1, R2, R146, R158). -/
def Instr.wellFormed : Instr → Bool
  | .requestPresented r => r.wellFormed
  | .dPortResponse r => r.wellFormed
  | .readStatus _ i => i != rawTimeIndex
  | .unknownCommandByte _ b => !commandBytes.contains b
  | .take | .holdExpiry | .grant | .dPortTake | .overdueExpiry _ _ _ | .fullReset _ | .quiesceComplete
  | .quiesceAbandon | .porRstn | .stageTimeout | .triginEdge _ | .trigoutPulseEnd | .readActive _ _
  | .readStaged _ _ | .writeStaged _ _ _ | .rawTimeSnapshot _ | .apply _ | .applyTakesEffect | .arm _
  | .disarm _ | .force _ | .alignOnce _ | .clearCounters _ | .ackConditions _ _ | .writeAlertEnable _ _
  | .readRecord _ _ _ | .discardHead _ | .spillResume _ | .spillSkip _ | .captureReset _ | .syncPulse _
  | .lossWatchExpiry | .resetEnd => true

end Sys2Proof
end

