-- ==== Sys2Proof/Decode.lean ====
section
/-! DEFINITION. Reading a command from bits. spec/opcode_table.json gives none of its rows any bits, so the host's
`decodeTableWord` reads none. The management frame does have an encoding (R157, 11.3): `decodeFrame` reads the command
of a frame from its MDI bytes, and `frameBytes` writes those bytes. -/

namespace Sys2Proof

/-- No row of spec/opcode_table.json has bits ("fields" is empty in all of them): a word spells no command. -/
def decodeTableWord (_nbits _w : Nat) : Option Instr := none

/-- Bytes sent most significant first, as a number (R157). -/
def ofBytesMsb (bs : List Byte) : Nat :=
  bs.foldl (fun acc b => acc * 256 + b.toNat) 0

/-- The word index of a frame, bytes 1–2; a byte that never came reads as zero and then has no effect (R157). -/
def frameIndex (bs : List Byte) : BitVec 16 :=
  BitVec.ofNat 16 (ofBytesMsb [bs.getD 1 0, bs.getD 2 0])

/-- The data word or mask of a frame, bytes 3–6 (R157). -/
def frameData (bs : List Byte) : Word :=
  BitVec.ofNat 32 (ofBytesMsb [bs.getD 3 0, bs.getD 4 0, bs.getD 5 0, bs.getD 6 0])

/-- The command of a frame from its whole MDI bytes (R157, 11.3), none when no command byte is complete (R158). The
frame's start in a quiesce, and a record's leaving during a READ_RECORD, are no part of the bytes. -/
def decodeFrame (bs : List Byte) (beganInQuiesce : Bool) (leftAfter : Option Nat) : Option Instr :=
  let f : Frame := ⟨bs.length, beganInQuiesce⟩
  match bs with
  | [] => none
  | b :: _ =>
    if b = 0x01 then some (.readActive f (frameIndex bs))
    else if b = 0x02 then some (.readStaged f (frameIndex bs))
    else if b = 0x03 then some (.writeStaged f (frameIndex bs) (frameData bs))
    else if b = 0x04 then
      if frameIndex bs = rawTimeIndex then some (.rawTimeSnapshot f) else some (.readStatus f (frameIndex bs))
    else if b = 0x10 then some (.apply f)
    else if b = 0x20 then some (.arm f)
    else if b = 0x21 then some (.disarm f)
    else if b = 0x22 then some (.force f)
    else if b = 0x30 then some (.alignOnce f)
    else if b = 0x40 then some (.clearCounters f)
    else if b = 0x41 then some (.ackConditions f (frameData bs))
    else if b = 0x42 then some (.writeAlertEnable f (frameData bs))
    else if b = 0x50 then some (.readRecord f (frameIndex bs) leftAfter)
    else if b = 0x51 then some (.discardHead f)
    else if b = 0x60 then some (.spillResume f)
    else if b = 0x61 then some (.spillSkip f)
    else if b = 0x70 then some (.captureReset f)
    else if b = 0x7F then some (.fullReset f)
    else some (.unknownCommandByte f b)

/-- A word index as bytes 1–2 of a frame (R157). -/
def indexBytes (i : BitVec 16) : List Byte := [i.extractLsb' 8 8, i.extractLsb' 0 8]

/-- A data word as bytes 3–6 of a frame (R157). -/
def dataBytes (w : Word) : List Byte :=
  [w.extractLsb' 24 8, w.extractLsb' 16 8, w.extractLsb' 8 8, w.extractLsb' 0 8]

/-- A list cut or filled with zero bytes to a length (R157: bytes after those the command uses carry zero). -/
def fitBytes (n : Nat) (bs : List Byte) : List Byte :=
  (bs ++ List.replicate n 0).take n

/-- The frame of a management command and its used bytes: command byte, word index, data (R157, 11.3). None for the
events that are no frame. -/
def Instr.frameParts : Instr → Option (Frame × List Byte)
  | .readActive f i => some (f, 0x01 :: indexBytes i)
  | .readStaged f i => some (f, 0x02 :: indexBytes i)
  | .writeStaged f i w => some (f, 0x03 :: indexBytes i ++ dataBytes w)
  | .readStatus f i => some (f, 0x04 :: indexBytes i)
  | .rawTimeSnapshot f => some (f, 0x04 :: indexBytes rawTimeIndex)
  | .apply f => some (f, [0x10])
  | .arm f => some (f, [0x20])
  | .disarm f => some (f, [0x21])
  | .force f => some (f, [0x22])
  | .alignOnce f => some (f, [0x30])
  | .clearCounters f => some (f, [0x40])
  | .ackConditions f m => some (f, 0x41 :: indexBytes 0 ++ dataBytes m)
  | .writeAlertEnable f m => some (f, 0x42 :: indexBytes 0 ++ dataBytes m)
  | .readRecord f o _ => some (f, 0x50 :: indexBytes o)
  | .discardHead f => some (f, [0x51])
  | .spillResume f => some (f, [0x60])
  | .spillSkip f => some (f, [0x61])
  | .captureReset f => some (f, [0x70])
  | .fullReset f => some (f, [0x7F])
  | .unknownCommandByte f b => some (f, [b])
  | .requestPresented _ | .take | .holdExpiry | .grant | .dPortTake | .dPortResponse _ | .overdueExpiry _ _ _
  | .quiesceComplete | .quiesceAbandon | .porRstn | .stageTimeout | .triginEdge _ | .trigoutPulseEnd
  | .applyTakesEffect | .syncPulse _ | .lossWatchExpiry | .resetEnd => none

/-- The MDI bytes of a management command's frame, cut or filled to the frame's whole bytes (R157). -/
def Instr.frameBytes (i : Instr) : Option (List Byte) :=
  i.frameParts.map fun p => fitBytes p.1.bytes p.2

/-- The record-left operand of a READ_RECORD, absent for every other command. -/
def Instr.leftAfter? : Instr → Option Nat
  | .readRecord _ _ k => k
  | _ => none

end Sys2Proof
end

