-- ==== Sys2Proof/Machine/Bits.lean ====
section
/-! DEFINITION. Bit-field, saturation and byte-order helpers of Chapter 11 and R177. -/

namespace Sys2Proof.Machine

/-- A counter's step: one more, but 2^32 − 1 stays (R177). -/
def satSucc (x : Word) : Word :=
  if x = BitVec.allOnes 32 then x else x + 1

/-- `n` counter steps at once (R177). -/
def satAdd (x : Word) (n : Nat) : Word :=
  if x.toNat + n < 2 ^ 32 then BitVec.ofNat 32 (x.toNat + n) else BitVec.allOnes 32

/-- A field of `n` bits placed at bit `lo` of a 32-bit word (11.4, 11.5). -/
def putField {n : Nat} (lo : Nat) (x : BitVec n) : Word :=
  x.setWidth 32 <<< lo

/-- A one-bit field placed at bit `lo` of a 32-bit word (11.4, 11.5); 1 means set, on or present. -/
def putFlag (lo : Nat) (b : Bool) : Word :=
  (BitVec.ofBool b).setWidth 32 <<< lo

/-- The field of `n` bits at bit `lo` of a 32-bit word (11.4). -/
def getField (w : Word) (lo n : Nat) : BitVec n :=
  w.extractLsb' lo n

/-- The one-bit field at bit `lo` of a 32-bit word (11.4). -/
def getFlag (w : Word) (lo : Nat) : Bool :=
  w.getLsbD lo

/-- A field of a record cell or memory word: `x` at bit `lo` (11.1, 11.2). -/
def cellField {n : Nat} (lo : Nat) (x : BitVec n) : Cell :=
  x.setWidth 64 <<< lo

/-- A one-bit field of a record cell (11.1). -/
def cellFlag (lo : Nat) (b : Bool) : Cell :=
  (BitVec.ofBool b).setWidth 64 <<< lo

/-- A memory word or cell as its 8 bytes, byte 0 first (Chapter 11, opening). -/
def cellBytes (c : Cell) : List Byte :=
  (List.range 8).map fun k => c.extractLsb' (8 * k) 8

/-- A value with every byte whose byte-mask bit is clear taken as zero (R55). -/
def maskedValue (b : Beat) : Cell :=
  (List.range 8).foldl
    (fun acc k => if b.mask.getLsbD k then acc ||| (b.value &&& ((0xFF : Cell) <<< (8 * k))) else acc) 0

/-- One bit step of the reflected CRC-32: generator 0x04C11DB7 read least significant bit first (R182). -/
def crcBit (c : Word) : Word :=
  if c.getLsbD 0 then (c >>> 1) ^^^ 0xEDB88320 else c >>> 1

/-- One byte of the CRC-32, least significant bit first (R182). -/
def crcByte (c : Word) (b : Byte) : Word :=
  (List.range 8).foldl (fun acc _ => crcBit acc) (c ^^^ b.setWidth 32)

/-- The CRC-32 of R182 over bytes in memory order: initial register all ones, reflected input and output, final XOR all
ones. -/
def crc32 (bs : List Byte) : Word :=
  bs.foldl crcByte (BitVec.allOnes 32) ^^^ BitVec.allOnes 32


end Sys2Proof.Machine
end

