-- ==== Sys2Proof/Machine/Params.lean ====
section
/-! DEFINITION. One configuration set (R148, R150): every parameter at exactly the width of its field in the word map of
11.4, so that a STAGED set can hold and read back whatever was written (R151); the defaults; the map itself; and the
APPLY checks of R152. -/

namespace Sys2Proof.Machine

/-- Mode (R150). -/
inductive Mode where
  | pass
  | observe
  deriving DecidableEq, Repr

/-- Overdue action (R150). -/
inductive OverdueAction where
  | report
  | cut
  deriving DecidableEq, Repr

/-- Capture policy (R150). -/
inductive CapturePolicy where
  | skip
  | hold
  deriving DecidableEq, Repr

/-- TRIGIN mode (R150). -/
inductive TriginMode where
  | off
  | stage
  | direct
  deriving DecidableEq, Repr

/-- Repeat mode (R150). -/
inductive RepeatMode where
  | single
  | repeating
  deriving DecidableEq, Repr

/-- Retrigger mode (R150). -/
inductive RetriggerMode where
  | count
  | extend
  deriving DecidableEq, Repr

/-- Drain route (R150). -/
inductive DrainRoute where
  | port
  | spill
  deriving DecidableEq, Repr

/-- Sync mode (R137). -/
inductive SyncMode where
  | off
  | monitor
  | every
  deriving DecidableEq, Repr

/-- Status filter of a watch entry (R47). -/
inductive StatusFilter where
  | any
  | okay
  | fault
  deriving DecidableEq, Repr

/-- Condition type of a stage (R61). -/
inductive StageCondition where
  | hits
  | line
  | slip
  deriving DecidableEq, Repr

/-- Action of a stage (R61). -/
inductive StageAction where
  | next
  | fire
  deriving DecidableEq, Repr

/-- A two-bit code as a place in the list of a field's values, counted from 0 in the order in which R150, R47 and R61
list them (11.4); an unassigned code is none of them. -/
def codeIn {α : Type} (values : List α) (code : BitVec 2) : Option α :=
  values[code.toNat]?

/-- One watch entry of a set (R47), at the widths of its words (11.4). -/
structure WatchEntry where
  enabled : Bool
  kinds : BitVec 7
  hasRange : Bool
  low : Addr
  high : Addr
  initiators : BitVec 15
  statusFilter : BitVec 2
  floor : BitVec 24
  hasCompare : Bool
  compareValue : Cell
  compareMask : Cell
  capture : Bool
  deriving DecidableEq, Repr

/-- One stage definition of a set (R61), at the widths of its words (11.4). -/
structure StageDef where
  condition : BitVec 2
  action : BitVec 2
  count : BitVec 7
  window : BitVec 7
  watchSet : BitVec 16
  timeout : BitVec 24
  deriving DecidableEq, Repr

/-- A configuration set: every parameter of R150, the sixteen watch entries and the four stages. -/
structure ParamSet where
  mode : BitVec 2
  overdueAction : BitVec 2
  capturePolicy : BitVec 2
  triginMode : BitVec 2
  repeatMode : BitVec 2
  retriggerMode : BitVec 2
  drainRoute : BitVec 2
  selfQuiet : Bool
  trigoutEnable : Bool
  overdueLimit : BitVec 24
  holdLimit : BitVec 24
  quiesceLimit : BitVec 24
  preCount : BitVec 8
  postCount : BitVec 10
  maxObs : BitVec 11
  suppress : BitVec 16
  spillBase : Addr
  spillSize : Word
  protection : Bool
  share : BitVec 4
  pageEnable : Bool
  pageBase : Addr
  permit : BitVec 15
  syncMode : BitVec 2
  jitter : BitVec 8
  period : BitVec 25
  watch : List WatchEntry
  stages : List StageDef
  deriving DecidableEq, Repr

/-- The default watch entry (R47). The words of its absent range and data compare are zero, the model's choice: R47 gives
them no value (log entry 28). -/
def WatchEntry.default : WatchEntry :=
  { enabled := false, kinds := 0, hasRange := false, low := 0, high := 0, initiators := 0, statusFilter := 0,
    floor := 0, hasCompare := false, compareValue := 0, compareMask := 0, capture := false }

/-- The default stage of R61 with the given action code (0 NEXT, 1 FIRE). -/
def StageDef.default (action : BitVec 2) : StageDef :=
  { condition := 0, action := action, count := 1, window := 1, watchSet := 0, timeout := 0 }

/-- The values of R150 after POR/RSTN and FULL_RESET. -/
def ParamSet.defaults : ParamSet :=
  { mode := 0, overdueAction := 0, capturePolicy := 0, triginMode := 0, repeatMode := 0, retriggerMode := 0,
    drainRoute := 0, selfQuiet := true, trigoutEnable := true, overdueLimit := 0, holdLimit := 65536,
    quiesceLimit := 1048576, preCount := 16, postCount := 16, maxObs := 64, suppress := 0, spillBase := 0,
    spillSize := 0, protection := false, share := 4, pageEnable := false, pageBase := 0, permit := 0, syncMode := 0,
    jitter := 0, period := 64, watch := List.replicate 16 WatchEntry.default,
    stages := [StageDef.default 1, StageDef.default 0, StageDef.default 0, StageDef.default 1] }

/-! ## The enumerated fields -/

def ParamSet.mode? (p : ParamSet) : Option Mode := codeIn [.pass, .observe] p.mode
def ParamSet.overdueAction? (p : ParamSet) : Option OverdueAction := codeIn [.report, .cut] p.overdueAction
def ParamSet.capturePolicy? (p : ParamSet) : Option CapturePolicy := codeIn [.skip, .hold] p.capturePolicy
def ParamSet.triginMode? (p : ParamSet) : Option TriginMode := codeIn [.off, .stage, .direct] p.triginMode
def ParamSet.repeatMode? (p : ParamSet) : Option RepeatMode := codeIn [.single, .repeating] p.repeatMode
def ParamSet.retriggerMode? (p : ParamSet) : Option RetriggerMode := codeIn [.count, .extend] p.retriggerMode
def ParamSet.drainRoute? (p : ParamSet) : Option DrainRoute := codeIn [.port, .spill] p.drainRoute
def ParamSet.syncMode? (p : ParamSet) : Option SyncMode := codeIn [.off, .monitor, .every] p.syncMode
def WatchEntry.statusFilter? (e : WatchEntry) : Option StatusFilter := codeIn [.any, .okay, .fault] e.statusFilter
def StageDef.condition? (d : StageDef) : Option StageCondition := codeIn [.hits, .line, .slip] d.condition
def StageDef.action? (d : StageDef) : Option StageAction := codeIn [.next, .fire] d.action

/-- The definition of stage `n` (R61); a set holds four, and no other stage is ever current. -/
def ParamSet.stage (p : ParamSet) (n : Nat) : StageDef :=
  p.stages.getD n (StageDef.default 1)

/-- The fire stage: the first stage, counting from 0, whose action is FIRE (R61). -/
def ParamSet.fireStage? (p : ParamSet) : Option StageDef :=
  p.stages.find? fun d => d.action? == some .fire

/-! ## The spill ring and the reservation of a set -/

/-- A spill size that is a power of two from 16 KiB to 1 GiB (R111). -/
def sizeInRange (size : Nat) : Bool :=
  (List.range 17).any fun k => size == 2 ^ (14 + k)

/-- A size and base that check 5 of R152 passes for a ring. -/
def ringFits (size base : Nat) : Bool :=
  sizeInRange size && base % 4096 == 0 && base + size ≤ 2 ^ 40

/-- The spill ring is valid (R4, R111). -/
def ParamSet.ringValid (p : ParamSet) : Bool :=
  ringFits p.spillSize.toNat p.spillBase.toNat

/-- The area size A = size − 64 bytes (R111). -/
def ParamSet.area (p : ParamSet) : Nat := p.spillSize.toNat - 64

/-- d: 1 while any enabled watch entry has data capture on, else 0 (R48, R86). -/
def ParamSet.dataCells (p : ParamSet) : Nat :=
  if p.watch.any (fun e => e.enabled && e.capture) then 1 else 0

/-- The reservation R = 5 + MAX_OBS × (3 + d) cells (R86). -/
def ParamSet.reservation (p : ParamSet) : Nat :=
  5 + p.maxObs.toNat * (3 + p.dataCells)

/-- Two sets differ in the drain route, the spill base or the spill size (R128, R154). -/
def ParamSet.geometryDiffers (p q : ParamSet) : Bool :=
  p.drainRoute != q.drainRoute || p.spillBase != q.spillBase || p.spillSize != q.spillSize

/-! ## The word map (R165, 11.4) -/

/-- The low word of a 40-bit address (11.4). -/
def addrLow (a : Addr) : Word := a.extractLsb' 0 32

/-- The high word of a 40-bit address: bits 32–39 in bits 0–7 (11.4). -/
def addrHigh (a : Addr) : Word := (a.extractLsb' 32 8).setWidth 32

/-- A 40-bit address with its low word replaced. -/
def setAddrLow (a : Addr) (w : Word) : Addr := a.extractLsb' 32 8 ++ w

/-- A 40-bit address with its high word replaced; bits 8–31 of the word are assigned to nothing and ignored (R151). -/
def setAddrHigh (a : Addr) (w : Word) : Addr := w.extractLsb' 0 8 ++ a.extractLsb' 0 32

/-- The low word of a 64-bit value (11.4). -/
def cellLow (c : Cell) : Word := c.extractLsb' 0 32

/-- The high word of a 64-bit value (11.4). -/
def cellHigh (c : Cell) : Word := c.extractLsb' 32 32

/-- A 64-bit value with its low word replaced. -/
def setCellLow (c : Cell) (w : Word) : Cell := c.extractLsb' 32 32 ++ w

/-- A 64-bit value with its high word replaced. -/
def setCellHigh (c : Cell) (w : Word) : Cell := w ++ c.extractLsb' 0 32

/-- The word of a watch entry at an offset 0–10; offsets 11–15 are unassigned (11.4). -/
def WatchEntry.readWord (e : WatchEntry) (off : Nat) : Option Word :=
  if off = 0 then
    some (putFlag 0 e.enabled ||| putField 8 e.kinds ||| putField 16 e.statusFilter ||| putFlag 20 e.capture |||
      putFlag 24 e.hasRange ||| putFlag 25 e.hasCompare)
  else if off = 1 then some (putField 0 e.initiators)
  else if off = 2 then some (putField 0 e.floor)
  else if off = 3 then some (addrLow e.low)
  else if off = 4 then some (addrHigh e.low)
  else if off = 5 then some (addrLow e.high)
  else if off = 6 then some (addrHigh e.high)
  else if off = 7 then some (cellLow e.compareValue)
  else if off = 8 then some (cellHigh e.compareValue)
  else if off = 9 then some (cellLow e.compareMask)
  else if off = 10 then some (cellHigh e.compareMask)
  else none

/-- A watch entry with one whole word written (R151, 11.4). -/
def WatchEntry.writeWord (e : WatchEntry) (off : Nat) (w : Word) : Option WatchEntry :=
  if off = 0 then
    some { e with enabled := getFlag w 0, kinds := getField w 8 7, statusFilter := getField w 16 2,
                  capture := getFlag w 20, hasRange := getFlag w 24, hasCompare := getFlag w 25 }
  else if off = 1 then some { e with initiators := getField w 0 15 }
  else if off = 2 then some { e with floor := getField w 0 24 }
  else if off = 3 then some { e with low := setAddrLow e.low w }
  else if off = 4 then some { e with low := setAddrHigh e.low w }
  else if off = 5 then some { e with high := setAddrLow e.high w }
  else if off = 6 then some { e with high := setAddrHigh e.high w }
  else if off = 7 then some { e with compareValue := setCellLow e.compareValue w }
  else if off = 8 then some { e with compareValue := setCellHigh e.compareValue w }
  else if off = 9 then some { e with compareMask := setCellLow e.compareMask w }
  else if off = 10 then some { e with compareMask := setCellHigh e.compareMask w }
  else none

/-- The word of stage `n` at an offset 0–2; offset 2 of stage 0 is unassigned (11.4). -/
def StageDef.readWord (d : StageDef) (n off : Nat) : Option Word :=
  if off = 0 then
    some (putField 0 d.condition ||| putField 4 d.action ||| putField 8 d.count ||| putField 16 d.window)
  else if off = 1 then some (putField 0 d.watchSet)
  else if off = 2 ∧ n ≠ 0 then some (putField 0 d.timeout)
  else none

/-- Stage `n` with one whole word written (R151, 11.4). -/
def StageDef.writeWord (d : StageDef) (n off : Nat) (w : Word) : Option StageDef :=
  if off = 0 then
    some { d with condition := getField w 0 2, action := getField w 4 2, count := getField w 8 7,
                  window := getField w 16 7 }
  else if off = 1 then some { d with watchSet := getField w 0 16 }
  else if off = 2 ∧ n ≠ 0 then some { d with timeout := getField w 0 24 }
  else none

/-- The watch entry number and offset of a word index in 0x100–0x1FF (R165). -/
def watchPlace (i : Nat) : Nat × Nat := ((i - 0x100) / 16, (i - 0x100) % 16)

/-- The stage number and offset of a word index in 0x200–0x21F (R165). -/
def stagePlace (i : Nat) : Nat × Nat := ((i - 0x200) / 8, (i - 0x200) % 8)

/-- The word of a set at a configuration index; none where 11.4 assigns the index to no word (R160, R165). -/
def ParamSet.readWord (p : ParamSet) (i : Nat) : Option Word :=
  if i = 0x000 then
    some (putField 0 p.mode ||| putField 2 p.overdueAction ||| putField 4 p.capturePolicy ||| putField 6 p.triginMode |||
      putField 8 p.repeatMode ||| putField 10 p.retriggerMode ||| putField 12 p.drainRoute ||| putFlag 16 p.selfQuiet |||
      putFlag 17 p.trigoutEnable)
  else if i = 0x001 then some (putField 0 p.overdueLimit)
  else if i = 0x002 then some (putField 0 p.holdLimit)
  else if i = 0x003 then some (putField 0 p.quiesceLimit)
  else if i = 0x004 then some (putField 0 p.preCount ||| putField 8 p.postCount ||| putField 20 p.maxObs)
  else if i = 0x005 then some (putField 0 p.suppress)
  else if i = 0x020 then some (addrLow p.spillBase)
  else if i = 0x021 then some (addrHigh p.spillBase)
  else if i = 0x022 then some p.spillSize
  else if i = 0x023 then some (putFlag 0 p.protection ||| putField 8 p.share)
  else if i = 0x030 then some (putFlag 0 p.pageEnable)
  else if i = 0x031 then some (addrLow p.pageBase)
  else if i = 0x032 then some (addrHigh p.pageBase)
  else if i = 0x033 then some (putField 0 p.permit)
  else if i = 0x040 then some (putField 0 p.syncMode ||| putField 8 p.jitter)
  else if i = 0x041 then some (putField 0 p.period)
  else if 0x100 ≤ i ∧ i < 0x200 then
    p.watch[(watchPlace i).1]?.bind fun e => e.readWord (watchPlace i).2
  else if 0x200 ≤ i ∧ i < 0x220 then
    p.stages[(stagePlace i).1]?.bind fun d => d.readWord (stagePlace i).1 (stagePlace i).2
  else none

/-- A set with one whole word written (R151, R160); none where 11.4 assigns the index to no word. -/
def ParamSet.writeWord (p : ParamSet) (i : Nat) (w : Word) : Option ParamSet :=
  if i = 0x000 then
    some { p with mode := getField w 0 2, overdueAction := getField w 2 2, capturePolicy := getField w 4 2,
                  triginMode := getField w 6 2, repeatMode := getField w 8 2, retriggerMode := getField w 10 2,
                  drainRoute := getField w 12 2, selfQuiet := getFlag w 16, trigoutEnable := getFlag w 17 }
  else if i = 0x001 then some { p with overdueLimit := getField w 0 24 }
  else if i = 0x002 then some { p with holdLimit := getField w 0 24 }
  else if i = 0x003 then some { p with quiesceLimit := getField w 0 24 }
  else if i = 0x004 then
    some { p with preCount := getField w 0 8, postCount := getField w 8 10, maxObs := getField w 20 11 }
  else if i = 0x005 then some { p with suppress := getField w 0 16 }
  else if i = 0x020 then some { p with spillBase := setAddrLow p.spillBase w }
  else if i = 0x021 then some { p with spillBase := setAddrHigh p.spillBase w }
  else if i = 0x022 then some { p with spillSize := w }
  else if i = 0x023 then some { p with protection := getFlag w 0, share := getField w 8 4 }
  else if i = 0x030 then some { p with pageEnable := getFlag w 0 }
  else if i = 0x031 then some { p with pageBase := setAddrLow p.pageBase w }
  else if i = 0x032 then some { p with pageBase := setAddrHigh p.pageBase w }
  else if i = 0x033 then some { p with permit := getField w 0 15 }
  else if i = 0x040 then some { p with syncMode := getField w 0 2, jitter := getField w 8 8 }
  else if i = 0x041 then some { p with period := getField w 0 25 }
  else if 0x100 ≤ i ∧ i < 0x200 then
    p.watch[(watchPlace i).1]?.bind fun e =>
      (e.writeWord (watchPlace i).2 w).map fun e' => { p with watch := p.watch.set (watchPlace i).1 e' }
  else if 0x200 ≤ i ∧ i < 0x220 then
    p.stages[(stagePlace i).1]?.bind fun d =>
      (d.writeWord (stagePlace i).1 (stagePlace i).2 w).map fun d' =>
        { p with stages := p.stages.set (stagePlace i).1 d' }
  else none

/-! ## The APPLY checks (R152) -/

/-- Check 1: MAX_OBS is 1–1024, and P + Q + 1 ≤ MAX_OBS. -/
def ParamSet.countsFit (p : ParamSet) : Bool :=
  1 ≤ p.maxObs.toNat && p.maxObs.toNat ≤ 1024 && p.preCount.toNat + p.postCount.toNat + 1 ≤ p.maxObs.toNat

/-- Check 2, for one watch entry: a present address range has low ≤ high. -/
def WatchEntry.rangeOrdered (e : WatchEntry) : Bool :=
  !e.hasRange || e.low.toNat ≤ e.high.toNat

/-- Check 3, for one stage: a HITS stage has C of 1–64, W of 0–64, and C ≤ W when W > 0. -/
def StageDef.hitsFit (d : StageDef) : Bool :=
  d.condition? != some .hits ||
    (1 ≤ d.count.toNat && d.count.toNat ≤ 64 && d.window.toNat ≤ 64 &&
      (d.window.toNat == 0 || d.count.toNat ≤ d.window.toNat))

/-- Check 6: an enabled control page is aligned, inside the address space and clear of the ring. -/
def ParamSet.pageFits (p : ParamSet) : Bool :=
  !p.pageEnable ||
    (p.pageBase.toNat % 64 == 0 && p.pageBase.toNat + 64 ≤ 2 ^ 40 &&
      (p.spillSize.toNat == 0 || p.pageBase.toNat + 64 ≤ p.spillBase.toNat ||
        p.spillBase.toNat + p.spillSize.toNat ≤ p.pageBase.toNat))

/-- Check 10: every enumerated field holds one of its values. -/
def ParamSet.codesAssigned (p : ParamSet) : Bool :=
  p.mode?.isSome && p.overdueAction?.isSome && p.capturePolicy?.isSome && p.triginMode?.isSome &&
    p.repeatMode?.isSome && p.retriggerMode?.isSome && p.drainRoute?.isSome && p.syncMode?.isSome &&
    p.watch.all (fun e => e.statusFilter?.isSome) &&
    p.stages.all (fun d => d.condition?.isSome && d.action?.isSome)

/-- The ten checks of R152 in their order, each with its number. -/
def ParamSet.checks (p : ParamSet) : List (Nat × Bool) :=
  [(1, p.countsFit),
   (2, p.watch.all WatchEntry.rangeOrdered),
   (3, p.stages.all StageDef.hitsFit),
   (4, (p.stage 3).action? == some .fire),
   (5, p.spillSize.toNat == 0 || p.ringValid),
   (6, p.pageFits),
   (7, 64 ≤ p.period.toNat && p.period.toNat ≤ 2 ^ 24 && p.jitter.toNat ≤ 255),
   (8, 1 ≤ p.share.toNat && p.share.toNat ≤ 15),
   (9, 1 ≤ p.holdLimit.toNat && 1 ≤ p.quiesceLimit.toNat),
   (10, p.codesAssigned)]

/-- The number of the first failed check of R152, none when every check passes. -/
def ParamSet.firstFailed (p : ParamSet) : Option Nat :=
  (p.checks.find? fun c => !c.2).map (·.1)

end Sys2Proof.Machine
end

