-- ==== Sys2Proof/Machine/State.lean ====
section
/-! DEFINITION. The whole state of the part, block by block, as plain data; the reasons a step can stop; and the machine
right after reset. Level conditions and output pins follow this state (R172, R88, R175): Machine/Flags.lean gives them. -/

namespace Sys2Proof.Machine

/-- The part never stops: every command has an effect, or none, in every state. No meaning raises a fault. -/
inductive Fault where
  deriving DecidableEq, Repr

/-- Why a command is refused. -/
inductive Refusal where
  /-- Raised by an arm of `exec` alone, for a command whose meaning is not written. Safe: nothing is claimed of it. -/
  | notModelled (mnemonic : String)
  deriving DecidableEq, Repr

/-! ## Transit unit (Chapter 1) -/

/-- The key of a transaction: its initiator and tag (00_scope, Terms). -/
structure Key where
  initiator : Initiator
  tag : Tag
  deriving DecidableEq, Repr

/-- The decline reasons of R4. -/
inductive DeclineReason where
  | initiator
  | boundary
  | window
  deriving DecidableEq, Repr

/-- Origin of a transit entry (R7). -/
inductive Origin where
  | forwarded
  | declined (reason : DeclineReason)
  deriving DecidableEq, Repr

/-- Path state of a transit entry (R7); `none` expects nothing further. -/
inductive Path where
  | queued
  | issued
  | cut
  | none
  deriving DecidableEq, Repr

/-- Downstream state of a transit entry (R7). -/
inductive Downstream where
  | waiting
  | presented
  | taken
  | notSent
  deriving DecidableEq, Repr

/-- Answer content: status and, for a READ, the data values (R7). -/
structure Content where
  status : Status
  data : List Cell
  deriving DecidableEq, Repr

/-- Answer of a transit entry; the content is present when READY or SENT (R7, R9). -/
inductive Answer where
  | pending
  | ready (c : Content)
  | sent (c : Content)
  deriving DecidableEq, Repr

/-- The recognised words of R20. -/
inductive SnoopWord where
  | command
  | consumer
  deriving DecidableEq, Repr

/-- A snoop beat: which word was covered, the beat there, and the request's beats count (R20). -/
structure Snoop where
  word : SnoopWord
  beat : Beat
  beats : Nat
  deriving DecidableEq, Repr

/-- A transit entry, with the fields of R7. `id` is the model's own: the number of the take that made the entry, by
which the forward queue and the D-port name it (log entry 16). -/
structure Entry where
  id : Nat
  key : Key
  kind : Access
  address : Addr
  beats : Nat
  firstBeat : Option Beat
  snoop : Option Snoop
  takeTime : Time
  deadline : Option Time
  origin : Origin
  path : Path
  downstream : Downstream
  answer : Answer
  overdueSeen : Bool
  deriving DecidableEq, Repr

/-- A place in the forward queue: the entry, and the request with its data as it was taken (R6, R10, R12). -/
structure QueuedRequest where
  id : Nat
  request : Request
  deriving DecidableEq, Repr

/-- Whose request stands on the D-port request channel (R12). -/
inductive Claimant where
  | forward (id : Nat)
  | spill
  deriving DecidableEq, Repr

/-- The request presented on the D-port (R12). -/
structure Presented where
  request : Request
  claimant : Claimant
  deriving DecidableEq, Repr

/-- One nonzero abandoned count (R29). -/
structure AbandonedCount where
  key : Key
  count : Nat
  deriving DecidableEq, Repr

/-- The transit unit (R7, R10, R11, R26–R30). `upstream` is the request presented on the U-port and not taken. `table`
is in take order, so a key's list is its entries in that order. `holdTimer` is present while a hold episode lasts.
`quiesceTimer` is present while a full-reset quiesce is in progress. `abandoned` lists the nonzero counts, keys rising.
`takes` numbers the takes (log entry 16). -/
structure TransitUnit where
  upstream : Option Request
  table : List Entry
  forwardQueue : List QueuedRequest
  dPort : Option Presented
  runCount : Nat
  holdTimer : Option Nat
  holdExpired : Bool
  quiesceTimer : Option Nat
  abandoned : List AbandonedCount
  takes : Nat
  deriving DecidableEq, Repr

/-! ## Observation unit (Chapter 2) -/

/-- Observation kinds (R33), in the order of their codes (R181). -/
inductive ObsKind where
  | read
  | write
  | declined
  | overdue
  | late
  | orphan
  | mark
  deriving DecidableEq, Repr

/-- Mark causes (R34), in the order of their codes (R181). -/
inductive MarkCause where
  | slip
  | syncLost
  | epoch
  | software
  deriving DecidableEq, Repr

/-- The fields of an observation that its source fixes (R34); an absent field has no value. -/
structure ObsBody where
  kind : ObsKind
  access : Option Access := none
  initiator : Option Initiator := none
  tag : Option Tag := none
  address : Option Addr := none
  beats : Option Nat := none
  status : Option Status := none
  latency : Option Nat := none
  overdueSeen : Option Bool := none
  withdrawn : Option Bool := none
  reason : Option DeclineReason := none
  cause : Option MarkCause := none
  markValue : Option Word := none
  deriving DecidableEq, Repr

/-- An observation (R34): numbered and timed at step 1, hit set and data beat fixed at step 2 of its path (R40). Bit n of
`hits` stands for watch entry n. -/
structure Observation where
  sequence : Word
  timestamp : Time
  body : ObsBody
  hits : BitVec 16
  dataBeat : Option Beat
  deriving DecidableEq, Repr

/-- An entry of the history ring: an observation and its claimed mark (R43). -/
structure RingEntry where
  obs : Observation
  claimed : Bool
  deriving DecidableEq, Repr

/-- The observation unit (R38, R43). `ring` holds the newest entry first. -/
structure ObservationUnit where
  ring : List RingEntry
  sequence : Word
  deriving DecidableEq, Repr

/-! ## Watch statistics (Chapter 3) -/

/-- The statistics of one watch entry number (3.5). -/
structure WatchStat where
  hits : Word
  lastSequence : Option Word
  maxLatency : Option Nat
  deriving DecidableEq, Repr

/-! ## Trigger unit (Chapter 4) -/

/-- What the unit holds while ARMED (R60): the current stage, its window of hit (true) and miss outcomes, oldest first
(W > 0), its cumulative hit count (W = 0), and its timeout timer where one runs. -/
structure ArmedStage where
  stage : Nat
  outcomes : List Bool
  cumulative : Nat
  timer : Option Nat
  deriving DecidableEq, Repr

/-- The three states of R60. -/
inductive TriggerState where
  | disarmed
  | armed (a : ArmedStage)
  | capturing
  deriving DecidableEq, Repr

/-- The trigger unit (R60, R80, R81). `trigout` counts ticks since the last accepted fire while TRIGOUT is high.
`lineSeenLow`: TRIGIN has been seen low since the reset. -/
structure TriggerUnit where
  state : TriggerState
  trigout : Option Nat
  lineSeenLow : Bool
  deriving DecidableEq, Repr

/-! ## Record store (Chapter 5) -/

/-- Trigger causes (R69), in the order of their codes (R181). -/
inductive TriggerCause where
  | stage
  | lineDirect
  | forcePort
  | forceWord
  deriving DecidableEq, Repr

/-- State of a directory entry (R85). -/
inductive HeadState where
  | ready
  | spilling
  deriving DecidableEq, Repr

/-- A closed record in the directory (R85): its number, its cells (their number is its length) and its state. -/
structure DirectoryEntry where
  number : Word
  cells : List Cell
  state : HeadState
  deriving DecidableEq, Repr

/-- The open record (R90). N and D are the length and the data beats of `observations`. -/
structure OpenRecord where
  number : Word
  generation : BitVec 16
  cause : TriggerCause
  triggerTime : Time
  epoch : BitVec 16
  observations : List Observation
  preCount : Nat
  triggerIndex : Option Nat
  postRemaining : Nat
  suppressed : Word
  nested : Nat
  truncated : Bool
  aborted : Bool
  extended : Bool
  epochChanged : Bool
  deriving DecidableEq, Repr

/-- The record store (R85). -/
structure RecordStore where
  directory : List DirectoryEntry
  openRecord : Option OpenRecord
  reservation : Nat
  nextNumber : Word
  deriving DecidableEq, Repr

/-! ## Spill engine (Chapter 6) -/

/-- Fault causes (R112), in the order of their codes (11.5). -/
inductive FaultCause where
  | writeFault
  | publishFault
  | initFault
  | oversize
  deriving DecidableEq, Repr

/-- Engine states (R112); the fault cause is present exactly in FAULT. -/
inductive EngineState where
  | off
  | init
  | idle
  | waitSpace
  | writing
  | publish
  | fault (cause : FaultCause)
  deriving DecidableEq, Repr

/-- The kinds of attempt (R112). -/
inductive AttemptKind where
  | init
  | record
  | loneWrap
  deriving DecidableEq, Repr

/-- One write the engine means to make: a full-mask WRITE of the cells at an address (R118). -/
structure SpillWrite where
  address : Nat
  cells : List Cell
  deriving DecidableEq, Repr

/-- The current attempt (R112): where its record goes and its marker stands, the writes before its publish that are not
yet granted, how many of those before its publish are not yet acknowledged OKAY, its publish while that is not yet
granted (an INIT has none), and the producer offset and wrap count its publish writes. -/
structure Attempt where
  kind : AttemptKind
  recordOffset : Option Nat
  markerOffset : Option Nat
  writes : List SpillWrite
  unacknowledged : Nat
  publish : Option SpillWrite
  newProducer : Nat
  newWrap : Word
  deriving DecidableEq, Repr

/-- What a granted spill write is: a write before the publish, or a publish with the values it carries. -/
inductive WriteRole where
  | body
  | publish (producer : Nat) (wrap : Word)
  deriving DecidableEq, Repr

/-- The write that holds a tag in use: its role, whether its attempt has ended (stale), and whether the memory controller
has taken it (R112, R119). -/
structure TagUse where
  role : WriteRole
  stale : Bool
  taken : Bool
  deriving DecidableEq, Repr

/-- A spill tag (R112). -/
inductive TagState where
  | free
  | inUse (u : TagUse)
  | lost
  deriving DecidableEq, Repr

/-- The spill engine (R112). `tags` holds tags 0–3 in order. -/
structure SpillEngine where
  engine : EngineState
  producer : Nat
  wrapCount : Word
  consumer : Nat
  attempt : Option Attempt
  tags : List TagState
  deriving DecidableEq, Repr

/-! ## Time base (Chapter 7) -/

/-- States of the loss watch (R144). -/
inductive LossWatch where
  | idle
  | watching
  | lost
  deriving DecidableEq, Repr

/-- The snapshot of R146. -/
structure Snapshot where
  raw : Time
  aligned : Time
  offset : Time
  epoch : BitVec 16
  deriving DecidableEq, Repr

/-- The time base (R134). `lineSeenLow`: SYNCIN has been seen low since the reset. -/
structure TimeBase where
  raw : Time
  offset : Time
  epoch : BitVec 16
  once : Bool
  lastPulse : Option Time
  lastPhase : Option Int
  lossWatch : LossWatch
  lineSeenLow : Bool
  snapshot : Snapshot
  deriving DecidableEq, Repr

/-! ## Configuration block and management port (Chapter 8) -/

/-- The five result codes (R158). -/
inductive Result where
  | done
  | refused
  | badIndex
  | busy
  | locked
  deriving DecidableEq, Repr

/-- The configuration block (R148). Its quiesce item is the transit unit's quiesce timer. -/
structure ConfigBlock where
  active : ParamSet
  staged : ParamSet
  generation : BitVec 16
  applyPending : Bool
  refusalCause : Option Nat
  result : Result
  deriving DecidableEq, Repr

/-! ## Condition block (Chapter 10) -/

/-- The thirteen sticky conditions (R173). -/
inductive Sticky where
  | tableFull
  | orphan
  | overdue
  | late
  | holdExpired
  | quiesceAbandoned
  | fireRefused
  | spillFault
  | badConsumer
  | badControl
  | syncSlip
  | syncLost
  | applyDone
  deriving DecidableEq, Repr

/-- The 26 event counters, in the order of the table in R176. -/
inductive Counter where
  | observationsMade
  | suppressed
  | declinedInitiator
  | declinedBoundary
  | declinedWindow
  | overdue
  | late
  | orphan
  | fires
  | refused
  | nested
  | stageTimeouts
  | recordsClosed
  | truncated
  | aborted
  | spilled
  | skipped
  | discarded
  | holdEpisodes
  | holdExpiries
  | controlInterpreted
  | controlUnpermitted
  | controlMalformed
  | consumerMalformed
  | syncPulses
  | syncSlips
  deriving DecidableEq, Repr

/-- The condition block: the sticky conditions at the bit positions of 11.3, the counters in the order of R176, and the
alert enable mask (R173, R175, R176). -/
structure ConditionBlock where
  sticky : Word
  counters : List Word
  alertEnable : Word
  deriving DecidableEq, Repr

/-! ## The part -/

/-- What the part has sent that its receiver takes at once (log entry 15): the U-port responses of the most recent
command, in order, and the MDO bytes of the most recent frame. -/
structure Outputs where
  upstream : List Response
  mdo : List Byte
  deriving DecidableEq, Repr

/-- The whole part. `pending` is the queue of waiting commands, first in first out. `held`: RSTN is low, or the power-on
reset lasts (R183). `freeIndex` is the model's own: the number of the next free choice. -/
structure State where
  pending : List Instr
  held : Bool
  config : ConfigBlock
  transit : TransitUnit
  observer : ObservationUnit
  watchStats : List WatchStat
  trigger : TriggerUnit
  store : RecordStore
  spill : SpillEngine
  clock : TimeBase
  conditions : ConditionBlock
  outputs : Outputs
  freeIndex : Nat
  deriving DecidableEq, Repr

/-! ## The values after POR/RSTN -/

/-- R30, POR/RSTN column. -/
def TransitUnit.reset : TransitUnit :=
  { upstream := none, table := [], forwardQueue := [], dPort := none, runCount := 0, holdTimer := none,
    holdExpired := false, quiesceTimer := none, abandoned := [], takes := 0 }

/-- R46, POR/RSTN row. -/
def ObservationUnit.reset : ObservationUnit := { ring := [], sequence := 0 }

/-- 3.5, before the first hit. -/
def WatchStat.cleared : WatchStat := { hits := 0, lastSequence := none, maxLatency := none }

/-- R84, POR/RSTN row. -/
def TriggerUnit.reset : TriggerUnit := { state := .disarmed, trigout := none, lineSeenLow := false }

/-- R108, POR/RSTN column. -/
def RecordStore.reset : RecordStore := { directory := [], openRecord := none, reservation := 0, nextNumber := 0 }

/-- R132, POR/RSTN column. -/
def SpillEngine.reset : SpillEngine :=
  { engine := .off, producer := 0, wrapCount := 0, consumer := 0, attempt := none, tags := List.replicate 4 .free }

/-- R146: the snapshot is 0 in every part. -/
def Snapshot.zero : Snapshot := { raw := 0, aligned := 0, offset := 0, epoch := 0 }

/-- R147, POR/RSTN column. -/
def TimeBase.reset : TimeBase :=
  { raw := 0, offset := 0, epoch := 0, once := false, lastPulse := none, lastPhase := none, lossWatch := .idle,
    lineSeenLow := false, snapshot := Snapshot.zero }

/-- R149, R153, R152, R158 after POR/RSTN. -/
def ConfigBlock.reset : ConfigBlock :=
  { active := ParamSet.defaults, staged := ParamSet.defaults, generation := 0, applyPending := false,
    refusalCause := none, result := .done }

/-- R179, POR/RSTN row. -/
def ConditionBlock.reset : ConditionBlock :=
  { sticky := 0, counters := List.replicate 26 0, alertEnable := 0 }

/-- The part right after reset: the POR/RSTN state of every chapter, with the reset ended (R183; log entry 5). -/
def State.reset : State :=
  { pending := [], held := false, config := ConfigBlock.reset, transit := TransitUnit.reset,
    observer := ObservationUnit.reset, watchStats := List.replicate 16 WatchStat.cleared,
    trigger := TriggerUnit.reset, store := RecordStore.reset, spill := SpillEngine.reset, clock := TimeBase.reset,
    conditions := ConditionBlock.reset, outputs := { upstream := [], mdo := [] }, freeIndex := 0 }

end Sys2Proof.Machine
end

