-- ==== Sys2Proof/Machine/Ops.lean ====
section
/-! DEFINITION. The named operations over the state that every block uses: counting, sticky conditions, time, the free
cells, HOLD, the abandoned counts and the free choices. A block has no exception entry; a condition is its report. -/

namespace Sys2Proof.Machine

/-! ## Conditions and counters (Chapter 10) -/

/-- The bit of a sticky condition in the condition word (11.3). -/
def Sticky.bit : Sticky → Nat
  | .tableFull => 8
  | .orphan => 9
  | .overdue => 10
  | .late => 11
  | .holdExpired => 12
  | .quiesceAbandoned => 13
  | .fireRefused => 14
  | .spillFault => 15
  | .badConsumer => 16
  | .badControl => 17
  | .syncSlip => 18
  | .syncLost => 19
  | .applyDone => 20

/-- The place of a counter in the table of R176, which is its word's offset from 0x420 (11.5). -/
def Counter.index : Counter → Nat
  | .observationsMade => 0
  | .suppressed => 1
  | .declinedInitiator => 2
  | .declinedBoundary => 3
  | .declinedWindow => 4
  | .overdue => 5
  | .late => 6
  | .orphan => 7
  | .fires => 8
  | .refused => 9
  | .nested => 10
  | .stageTimeouts => 11
  | .recordsClosed => 12
  | .truncated => 13
  | .aborted => 14
  | .spilled => 15
  | .skipped => 16
  | .discarded => 17
  | .holdEpisodes => 18
  | .holdExpiries => 19
  | .controlInterpreted => 20
  | .controlUnpermitted => 21
  | .controlMalformed => 22
  | .consumerMalformed => 23
  | .syncPulses => 24
  | .syncSlips => 25

/-- A counter counts `n` events, saturating (R177). -/
def State.countBy (s : State) (c : Counter) (n : Nat) : State :=
  { s with conditions := { s.conditions with counters := s.conditions.counters.modify c.index (satAdd · n) } }

/-- A counter counts one event, saturating (R177). -/
def State.count (s : State) (c : Counter) : State :=
  { s with conditions := { s.conditions with counters := s.conditions.counters.modify c.index satSucc } }

/-- A sticky condition is set; one already set stays set (R173). -/
def State.raise (s : State) (k : Sticky) : State :=
  { s with conditions := { s.conditions with sticky := s.conditions.sticky ||| (1 : Word) <<< k.bit } }

/-- The value of a counter. -/
def State.counter (s : State) (c : Counter) : Word :=
  s.conditions.counters.getD c.index 0

/-- Whether a sticky condition is set. -/
def State.isSet (s : State) (k : Sticky) : Bool :=
  s.conditions.sticky.getLsbD k.bit

/-- CLEAR_COUNTERS: every counter 0, every watch statistic cleared, nothing else (R178, R58). -/
def State.clearCounters (s : State) : State :=
  { s with conditions := { s.conditions with counters := List.replicate 26 0 },
           watchStats := List.replicate 16 WatchStat.cleared }

/-! ## Time (Chapter 7) -/

/-- Aligned time: raw time plus the offset, modulo 2^48 (R136). -/
def State.aligned (s : State) : Time := s.clock.raw + s.clock.offset

/-- Ticks since a raw time, modulo 2^48 (R135). -/
def State.elapsed (s : State) (t : Time) : Nat := (s.clock.raw - t).toNat

/-- A latency: ticks since the take, saturated at 2^24 − 1 (R15, R34). -/
def State.latency (s : State) (takeTime : Time) : Nat := min (s.elapsed takeTime) Config.maxTicks24

/-! ## Space (Chapter 5) -/

/-- Cells of a list of directory entries. -/
def cellsOf (d : List DirectoryEntry) : Nat := (d.map fun e => e.cells.length).sum

/-- The free cells (R85). -/
def State.freeCells (s : State) : Nat :=
  Config.storeCells - cellsOf s.store.directory - s.store.reservation

/-- The acceptance test of a fire (R89). -/
def State.fireFits (s : State) : Bool :=
  s.config.active.reservation ≤ s.freeCells && s.store.directory.length < Config.directoryEntries

/-- STORE_LOW (R87): the free cells are below R, or the directory is full. -/
def State.storeLow (s : State) : Bool := !s.fireFits

/-! ## HOLD (1.9) -/

/-- HOLD is in force (R26). -/
def State.holdInForce (s : State) : Bool :=
  s.config.active.capturePolicy? == some .hold && s.config.active.mode? == some .observe && s.storeLow &&
    !s.transit.holdExpired

/-- A quiesce is in progress (R28). -/
def State.quiescing (s : State) : Bool := s.transit.quiesceTimer.isSome

/-- A hold episode starts: timer 0, counted (R26). -/
def State.startEpisode (s : State) : State :=
  ({ s with transit := { s.transit with holdTimer := some 0 } }).count .holdEpisodes

/-- The hold-expired state clears with STORE_LOW (R27). -/
def State.clearExpired (s : State) : State :=
  if s.storeLow then s else { s with transit := { s.transit with holdExpired := false } }

/-- Hold follows its causes (R26, R27): the hold-expired state clears with STORE_LOW, an episode starts where a request
waits while HOLD is in force, and ends where HOLD is not. -/
def State.followHold (s : State) : State :=
  let s := s.clearExpired
  if s.holdInForce then
    if s.transit.holdTimer.isNone && s.transit.upstream.isSome then s.startEpisode else s
  else { s with transit := { s.transit with holdTimer := none } }

/-- The episode expires (R27). -/
def State.expireHold (s : State) : State :=
  (({ s with transit := { s.transit with holdTimer := none, holdExpired := true } }).raise .holdExpired).count
    .holdExpiries

/-- The hold timer has reached the hold limit of the ACTIVE set (R27). -/
def State.holdLimitReached (s : State) : Bool :=
  match s.transit.holdTimer with
  | some t => s.config.active.holdLimit.toNat ≤ t
  | none => false

/-! ## Abandoned counts (R29) -/

/-- A key as one number, its place among the keys. -/
def Key.number (k : Key) : Nat := k.initiator.toNat * 64 + k.tag.toNat

/-- The abandoned count of a key; a key not listed has 0. -/
def abandonedOf (l : List AbandonedCount) (k : Key) : Nat :=
  match l.find? (fun a => a.key == k) with
  | some a => a.count
  | none => 0

/-- The list without a key. -/
def dropAbandoned (l : List AbandonedCount) (k : Key) : List AbandonedCount :=
  l.filter fun a => a.key != k

/-- The list with a key's count put in its place, keys rising. -/
def insertAbandoned (a : AbandonedCount) : List AbandonedCount → List AbandonedCount
  | [] => [a]
  | b :: l => if a.key.number < b.key.number then a :: b :: l else b :: insertAbandoned a l

/-- A key's count set; a count of 0 is not listed. -/
def setAbandoned (l : List AbandonedCount) (k : Key) (n : Nat) : List AbandonedCount :=
  if n = 0 then dropAbandoned l k else insertAbandoned ⟨k, n⟩ (dropAbandoned l k)

/-- One abandonment of a key: one more, at most 255 (R29). -/
def addAbandoned (l : List AbandonedCount) (k : Key) : List AbandonedCount :=
  setAbandoned l k (min (abandonedOf l k + 1) Config.maxAbandoned)

/-! ## Free choices (log entries 7–10) -/

/-- One of several, by a free choice where there is more than one (log entry 8). -/
def freePick {α : Type} (k : Nat) (xs : List α) : Option α :=
  if xs.length ≤ 1 then xs.head? else xs[Config.pick k % xs.length]?

/-- Several in an order no rule fixes, by free choices (log entry 8). The first argument bounds the list. -/
def freeOrder {α : Type} [DecidableEq α] : Nat → Nat → List α → List α
  | 0, _, _ => []
  | n + 1, k, xs =>
    match freePick k xs with
    | none => []
    | some x => x :: freeOrder n (k + 1) (xs.erase x)

/-- The next free choices are new ones. -/
def State.spendChoices (s : State) (n : Nat) : State := { s with freeIndex := s.freeIndex + n }

/-! ## The start of an event -/

/-- A new event: the U-port response channel carries nothing yet (R2; log entry 15). -/
def State.beginEvent (s : State) : State :=
  { s with outputs := { s.outputs with upstream := [] } }

end Sys2Proof.Machine
end

