-- ==== Sys2Proof/Machine/Flags.lean ====
section
/-! DEFINITION. The level conditions, the condition word and the output lines, each a function of the state it follows
(R81, R88, R172, R175, R183). -/

namespace Sys2Proof.Machine

/-- RECORD_READY (R100, R172). -/
def State.recordReady (s : State) : Bool := !s.store.directory.isEmpty

/-- HOLDING (R26, R172). -/
def State.holding (s : State) : Bool := s.transit.holdTimer.isSome

/-- SPILL_WAIT (R112, R172). -/
def State.spillWait (s : State) : Bool := s.spill.engine == .waitSpace

/-- The level conditions at their bits of the condition word (11.3). -/
def State.levelBits (s : State) : Word :=
  putFlag 0 s.recordReady ||| putFlag 1 s.storeLow ||| putFlag 2 s.holding ||| putFlag 3 s.spillWait

/-- The bits of the condition word that stand for sticky conditions: 8–20 (11.3). -/
def stickyMask : Word := 0x001FFF00

/-- The bits of the condition word that stand for a condition: 0–3 and 8–20 (11.3). -/
def conditionMask : Word := 0x001FFF0F

/-- The condition word of all seventeen conditions (R180, 11.3). -/
def State.conditionWord (s : State) : Word := s.levelBits ||| (s.conditions.sticky &&& stickyMask)

/-- The ALERT output (R175); low while the part is held in reset (R183). -/
def State.alert (s : State) : Bool :=
  !s.held && (s.conditionWord &&& s.conditions.alertEnable &&& conditionMask) != 0

/-- The trigger unit is CAPTURING. -/
def State.capturing (s : State) : Bool := s.trigger.state == .capturing

/-- The BUSY output (R88); low while the part is held in reset (R183). -/
def State.busy (s : State) : Bool := !s.held && (s.capturing || s.storeLow)

/-- The TRIGOUT output (R81); a reset has ended every pulse (R84, R183). -/
def State.trigoutHigh (s : State) : Bool := s.trigger.trigout.isSome

end Sys2Proof.Machine
end

