-- ==== Sys2Proof/Machine/Operands.lean ====
section
/-! DEFINITION. What the operands of the commands cover: bursts against words and regions, the decline checks, snoop
beats, and the recognition of a rising edge. Bytes are counted as plain integers without wrap (R51). -/

namespace Sys2Proof.Machine

/-- A byte mask of all ones. -/
def fullMask : BitVec 8 := 0xFF

/-- The place of the beat of a burst that lies at an address, where one does (R1: beat k lies at address + 8k). -/
def beatAt (address beats word : Nat) : Option Nat :=
  if address ≤ word ∧ word < address + 8 * beats ∧ (word - address) % 8 = 0 then some ((word - address) / 8) else none

/-- The burst crosses a 4096-byte boundary (R4, check 2). -/
def crossesBoundary (address beats : Nat) : Bool := 4096 < address % 4096 + 8 * beats

/-- The address of the consumer word of a set's ring (R4, R111). -/
def ParamSet.consumerAddress (p : ParamSet) : Nat := p.spillBase.toNat + 16

/-- A byte lies in the ring of a set, from base to base + size − 1 (R4). -/
def ParamSet.inRing (p : ParamSet) (a : Nat) : Bool :=
  p.spillBase.toNat ≤ a && a < p.spillBase.toNat + p.spillSize.toNat

/-- A WRITE is a well-formed update of a word: one beat, there, with a full byte mask (R4). -/
def updatesWord (r : Request) (word : Nat) : Bool :=
  r.beats == 1 && r.address.toNat == word && (r.data.head?.map (·.mask)) == some fullMask

/-- The WRITE reaches the protected area of a set's ring (R4): a beat lies in the ring outside the consumer word, or the
burst covers the consumer word and is not a well-formed update of it. -/
def reachesProtected (p : ParamSet) (r : Request) : Bool :=
  (List.range r.beats).any (fun k =>
      p.inRing (r.address.toNat + 8 * k) && r.address.toNat + 8 * k != p.consumerAddress) ||
    ((beatAt r.address.toNat r.beats p.consumerAddress).isSome && !updatesWord r p.consumerAddress)

/-- The decline checks of R4 in their order; the first that succeeds gives the reason. -/
def declineReason (p : ParamSet) (r : Request) : Option DeclineReason :=
  if r.initiator = 15 then some .initiator
  else if crossesBoundary r.address.toNat r.beats then some .boundary
  else if r.kind == .write && p.protection && p.ringValid && reachesProtected p r then some .window
  else none

/-- The beat of a WRITE on a recognised word, as a snoop beat (R20). -/
def snoopOn (r : Request) (w : SnoopWord) (word : Nat) : Option Snoop :=
  match beatAt r.address.toNat r.beats word with
  | some k => r.data[k]?.map fun b => { word := w, beat := b, beats := r.beats }
  | none => none

/-- The snoop beat of an accepted request under a set (R20, R166): none for a READ. -/
def snoopBeat (p : ParamSet) (r : Request) : Option Snoop :=
  if r.kind == .write then
    (if p.pageEnable then snoopOn r .command p.pageBase.toNat else none).or
      (if p.ringValid then snoopOn r .consumer p.consumerAddress else none)
  else none

/-- Every byte of a burst lies from `low` to `low + size − 1`. -/
def insideRegion (address beats low size : Nat) : Bool :=
  low ≤ address && address + 8 * beats ≤ low + size

/-- An observation with an address lies wholly inside one quiet region of a set (R36). A burst with every byte in the ring or
the page but not all in one of them is in no quiet region: the model's choice (log entry 29). -/
def ObsBody.inQuietRegion (b : ObsBody) (p : ParamSet) : Bool :=
  match b.address, b.beats with
  | some a, some n =>
    (p.ringValid && insideRegion a.toNat n p.spillBase.toNat p.spillSize.toNat) ||
      (p.pageEnable && insideRegion a.toNat n p.pageBase.toNat 64)
  | _, _ => false

/-- Whether a rise of a line is seen as an edge (R80, R138). A line not seen low since the reset gives no edge until it
has been low for a tick; a low tick before and a high tick after give one; a shorter gap or pulse may give one or not
(log entry 9). -/
def riseSeen (l : LineRise) (seenLow : Bool) (k : Nat) : Bool :=
  if !seenLow && !l.lowTick then false
  else if l.lowTick && l.highTick then true
  else Config.edgeSeen k

/-- Whether the recognition of a rise is a free choice: a gap or a pulse shorter than a tick (R80, log entry 9). -/
def riseIsFree (l : LineRise) (seenLow : Bool) : Bool :=
  (seenLow || l.lowTick) && !(l.lowTick && l.highTick)

end Sys2Proof.Machine
end

