-- ==== Sys2Proof/Machine/Formats.lean ====
section
/-! DEFINITION. The layouts of record cells, the wrap marker and the ring header words (11.1, 11.2, R181, R182). -/

namespace Sys2Proof.Machine

/-- Code of an access in a cell: 0 READ, 1 WRITE (11.1). -/
def accessCode : Access → BitVec 1
  | .read => 0
  | .write => 1

/-- Code of an observation kind, also its bit in a kind set (11.1, 11.4). -/
def ObsKind.code : ObsKind → BitVec 3
  | .read => 0
  | .write => 1
  | .declined => 2
  | .overdue => 3
  | .late => 4
  | .orphan => 5
  | .mark => 6

/-- Code of a status in an observation: 0 absent, 1 OKAY, 2 FAULT (11.1). -/
def statusCode : Option Status → BitVec 2
  | none => 0
  | some .okay => 1
  | some .fault => 2

/-- Code of a decline reason (11.1). -/
def DeclineReason.code : DeclineReason → BitVec 2
  | .initiator => 1
  | .boundary => 2
  | .window => 3

/-- Code of a mark cause (11.1). -/
def MarkCause.code : MarkCause → BitVec 2
  | .slip => 0
  | .syncLost => 1
  | .epoch => 2
  | .software => 3

/-- Code of a trigger cause (11.1). -/
def TriggerCause.code : TriggerCause → BitVec 2
  | .stage => 0
  | .lineDirect => 1
  | .forcePort => 2
  | .forceWord => 3

/-- The detail field of an observation, by kind (11.1). -/
def ObsBody.detail (b : ObsBody) : BitVec 2 :=
  match b.kind with
  | .read | .write => (BitVec.ofBool (b.overdueSeen.getD false)).setWidth 2
  | .overdue => (BitVec.ofBool (b.withdrawn.getD false)).setWidth 2
  | .declined => (b.reason.map DeclineReason.code).getD 0
  | .mark => (b.cause.map MarkCause.code).getD 0
  | .late | .orphan => 0

/-- Cell 0 of an observation (11.1). -/
def Observation.cell0 (o : Observation) : Cell :=
  cellField 0 o.sequence ||| cellField 32 o.hits ||| cellField 48 o.body.kind.code |||
    cellField 51 ((o.body.access.map accessCode).getD 0) ||| cellField 52 (o.body.initiator.getD 0) |||
    cellField 56 (o.body.tag.getD 0) ||| cellField 62 o.body.detail

/-- Cell 1 of an observation (11.1). -/
def Observation.cell1 (o : Observation) : Cell :=
  cellField 0 o.timestamp ||| cellField 48 (BitVec.ofNat 5 (o.body.beats.getD 0)) |||
    cellField 53 (statusCode o.body.status) ||| cellFlag 55 o.dataBeat.isSome |||
    cellField 56 ((o.dataBeat.map (·.mask)).getD 0)

/-- Cell 2 of an observation: the address, or the mark value of a MARK(SOFTWARE), and the latency (11.1). -/
def Observation.cell2 (o : Observation) : Cell :=
  cellField 0 (o.body.address.getD 0) ||| cellField 0 (o.body.markValue.getD 0) |||
    cellField 40 (BitVec.ofNat 24 (o.body.latency.getD 0))

/-- The cells of an observation: 3, and its data cell when a data beat is attached (R92, 11.1). -/
def Observation.cells (o : Observation) : List Cell :=
  [o.cell0, o.cell1, o.cell2] ++ (o.dataBeat.map (·.value)).toList

/-- The item type of a record header (11.1). -/
def headerType : BitVec 8 := 0x52

/-- The item type of a trailer (11.1). -/
def trailerType : BitVec 8 := 0x54

/-- The item type of a wrap marker (11.1). -/
def wrapType : BitVec 8 := 0x57

/-- The format version (11.1, 11.2). -/
def formatVersion : BitVec 8 := 1

/-- D: the kept observations that carry a data beat (R90). -/
def OpenRecord.dataBeats (r : OpenRecord) : Nat := r.observations.countP fun o => o.dataBeat.isSome

/-- The length of a closed record in cells, 5 + 3N + D (R100). -/
def OpenRecord.length (r : OpenRecord) : Nat := 5 + 3 * r.observations.length + r.dataBeats

/-- The sequence number of the first kept observation, present when N is above 0 (R102). -/
def OpenRecord.firstSequence (r : OpenRecord) : Option Word := r.observations.head?.map (·.sequence)

/-- The four header cells of a record (R102, 11.1). -/
def OpenRecord.headerCells (r : OpenRecord) : List Cell :=
  [cellField 0 headerType ||| cellField 8 formatVersion ||| cellField 16 (BitVec.ofNat 13 r.length) |||
     cellField 32 r.number,
   cellField 0 r.triggerTime ||| cellField 48 r.epoch,
   cellField 0 r.generation ||| cellField 16 (BitVec.ofNat 11 r.observations.length) |||
     cellField 27 (BitVec.ofNat 9 r.preCount) ||| cellField 36 (BitVec.ofNat 8 (r.triggerIndex.getD 0)) |||
     cellFlag 44 r.triggerIndex.isSome ||| cellField 45 r.cause.code ||| cellFlag 47 r.firstSequence.isSome |||
     cellField 48 (BitVec.ofNat 8 r.nested) ||| cellFlag 56 r.truncated ||| cellFlag 57 r.aborted |||
     cellFlag 58 r.extended ||| cellFlag 59 (r.dataBeats != 0) ||| cellFlag 60 r.epochChanged,
   cellField 0 r.suppressed ||| cellField 32 (r.firstSequence.getD 0)]

/-- The cells the CRC covers: header, then each observation's cells in list order (R103). -/
def OpenRecord.bodyCells (r : OpenRecord) : List Cell :=
  r.headerCells ++ r.observations.flatMap Observation.cells

/-- The trailer: the CRC-32 over the cells before it, and the length again (R100, 11.1). -/
def OpenRecord.trailerCell (r : OpenRecord) : Cell :=
  cellField 0 (crc32 (r.bodyCells.flatMap cellBytes)) ||| cellField 32 (BitVec.ofNat 13 r.length) |||
    cellField 56 trailerType

/-- The cells of a closed record in order (R103). -/
def OpenRecord.cells (r : OpenRecord) : List Cell := r.bodyCells ++ [r.trailerCell]

/-- A wrap marker cell (11.1). -/
def wrapMarker : Cell := cellField 0 wrapType ||| cellField 8 formatVersion

/-- The descriptor word of the ring header for an area size (11.2). -/
def descriptorWord (area : Nat) : Cell := cellField 0 formatVersion ||| cellField 32 (BitVec.ofNat 32 area)

/-- The producer word of the ring header (11.2). -/
def producerWord (producer : Nat) (wrap : Word) : Cell :=
  cellField 0 (BitVec.ofNat 32 producer) ||| cellField 32 wrap

/-- The consumer offset field of the consumer word; the other bits are ignored (R126, 11.2). -/
def consumerField (v : Cell) : Nat := (v.extractLsb' 0 32).toNat

/-- The command code of a command word: byte 0 (R168). -/
def commandCode (v : Cell) : Byte := v.extractLsb' 0 8

/-- The argument of a command word: bytes 4–7, least significant byte first (R168). -/
def commandArgument (v : Cell) : Word := v.extractLsb' 32 32

end Sys2Proof.Machine
end

