-- ==== Sys2Proof/Machine/Spill.lean ====
section
/-! DEFINITION. The spill engine (Chapter 6): placement, attempts and their writes, responses, consumer offers, recovery,
and what an apply and each reset do to it. -/

namespace Sys2Proof.Machine

/-! ## Space and placement (6.3) -/

/-- The free bytes of the ring, (consumer offset − producer offset − 8) modulo A (R114). -/
def ringFree (area producer consumer : Nat) : Nat := (consumer + area - (producer + 8)) % area

/-- The outcomes of a placement (R115). -/
inductive Placement where
  | oversize
  /-- A record attempt: the marker's offset where one precedes it, the record's offset, and what its publish writes. -/
  | record (marker : Option Nat) (offset newProducer : Nat) (newWrap : Word)
  /-- A lone wrap attempt: the marker's offset and the wrap count its publish writes. -/
  | loneWrap (marker : Nat) (newWrap : Word)
  | noRoom
  deriving DecidableEq, Repr

/-- The placement of a head of `c` cells at producer offset `p` with `f` free bytes; the first case that applies decides
(R115). -/
def placement (area p f c : Nat) (wrap : Word) : Placement :=
  if area - 8 < 8 * c then .oversize
  else if p + 8 * c ≤ area ∧ 8 * c ≤ f then
    .record none p ((p + 8 * c) % area) (if (p + 8 * c) % area = 0 then wrap + 1 else wrap)
  else if area < p + 8 * c ∧ (area - p) + 8 * c ≤ f then .record (some p) 0 (8 * c) (wrap + 1)
  else if area < p + 8 * c ∧ area - p ≤ f then .loneWrap p (wrap + 1)
  else .noRoom

/-- The cells of the next burst at an address: at most 16, no more than remain, none at or beyond the next 4096-byte
boundary (R118). -/
def burstCells (address remaining : Nat) : Nat :=
  min 16 (min remaining ((4096 - address % 4096) / 8))

/-- A record's cells cut into bursts from an address (R118). The first argument bounds their number. -/
def cutBursts : Nat → Nat → List Cell → List SpillWrite
  | 0, _, _ => []
  | n + 1, address, cells =>
    if cells.isEmpty then []
    else
      let k := burstCells address cells.length
      ⟨address, cells.take k⟩ :: cutBursts n (address + 8 * k) (cells.drop k)

/-- The memory address of an offset in the record area (R111). -/
def ParamSet.areaAddress (p : ParamSet) (offset : Nat) : Nat := p.spillBase.toNat + 64 + offset

/-- The publish of an attempt: one beat at base + 8 (R120). -/
def publishWrite (p : ParamSet) (producer : Nat) (wrap : Word) : SpillWrite :=
  ⟨p.spillBase.toNat + 8, [producerWord producer wrap]⟩

/-- The state of the directory head (R104). -/
def State.setHead (s : State) (h : HeadState) : State :=
  { s with store := { s.store with directory := s.store.directory.modify 0 fun e => { e with state := h } } }

/-- An attempt begins and the engine enters a state. -/
def State.beginAttempt (s : State) (e : EngineState) (a : Attempt) : State :=
  { s with spill := { s.spill with engine := e, attempt := some a } }

/-- The engine enters a state with no attempt. -/
def State.restEngine (s : State) (e : EngineState) : State :=
  { s with spill := { s.spill with engine := e, attempt := none } }

/-- A record attempt of the head's cells (R115, R117, R118). -/
def recordAttempt (p : ParamSet) (cells : List Cell) (marker : Option Nat) (offset newProducer : Nat)
    (newWrap : Word) : Attempt :=
  let writes :=
    (marker.map fun m => SpillWrite.mk (p.areaAddress m) [wrapMarker]).toList ++
      cutBursts cells.length (p.areaAddress offset) cells
  { kind := .record, recordOffset := some offset, markerOffset := marker, writes := writes,
    unacknowledged := writes.length, publish := some (publishWrite p newProducer newWrap),
    newProducer := newProducer, newWrap := newWrap }

/-- A lone wrap attempt (R115, R121). -/
def loneWrapAttempt (p : ParamSet) (marker : Nat) (newWrap : Word) : Attempt :=
  { kind := .loneWrap, recordOffset := none, markerOffset := some marker,
    writes := [⟨p.areaAddress marker, [wrapMarker]⟩], unacknowledged := 1,
    publish := some (publishWrite p 0 newWrap), newProducer := 0, newWrap := newWrap }

/-- An INIT attempt: descriptor word, then producer word; its second write is its publish (R130). -/
def initAttempt (p : ParamSet) : Attempt :=
  { kind := .init, recordOffset := none, markerOffset := none,
    writes := [⟨p.spillBase.toNat, [descriptorWord p.area]⟩, publishWrite p 0 0], unacknowledged := 2,
    publish := none, newProducer := 0, newWrap := 0 }

/-- The free bytes the engine reads at a placement (R114). -/
def State.spillFree (s : State) : Nat :=
  ringFree s.config.active.area s.spill.producer s.spill.consumer

/-- The engine places the directory head and goes to the outcome (R115, R117, R123). -/
def State.placeHead (s : State) : State :=
  match s.store.directory with
  | [] => s.restEngine .idle
  | h :: _ =>
    match placement s.config.active.area s.spill.producer s.spillFree h.cells.length s.spill.wrapCount with
    | .oversize => (s.restEngine (.fault .oversize)).raise .spillFault
    | .record m o np nw =>
      (s.beginAttempt .writing (recordAttempt s.config.active h.cells m o np nw)).setHead .spilling
    | .loneWrap m nw => s.beginAttempt .writing (loneWrapAttempt s.config.active m nw)
    | .noRoom => s.restEngine .waitSpace

/-- A tag is held by a stale write (R112). -/
def TagState.isStale : TagState → Bool
  | .inUse u => u.stale
  | _ => false

/-- A tag is held by a stale publish (R131). -/
def TagState.isStalePublish : TagState → Bool
  | .inUse u => u.stale && (match u.role with | .publish _ _ => true | .body => false)
  | _ => false

/-- The engine takes the head when it is IDLE, the directory is non-empty and no stale publish is in use (R117). -/
def State.takeHead (s : State) : State :=
  if s.spill.engine = .idle ∧ s.store.directory ≠ [] ∧ s.spill.tags.any TagState.isStalePublish = false then
    s.placeHead
  else s

/-- The head leaves the directory and its cells are given back; STORE_LOW's readers follow (R104). -/
def State.removeHead (s : State) : State :=
  ({ s with store := { s.store with directory := s.store.directory.tail } }).followHold

/-- The engine enters INIT and begins an INIT attempt (R130). -/
def State.startInit (s : State) : State := s.beginAttempt .init (initAttempt s.config.active)

/-! ## Writes on the D-port (R118) -/

/-- The next write of the current attempt whose turn has come, its role, and the attempt once it is granted (R118): the
publish's turn comes when every other write has been acknowledged OKAY. -/
def Attempt.nextWrite (a : Attempt) : Option (SpillWrite × WriteRole × Attempt) :=
  match a.writes with
  | w :: ws => some (w, .body, { a with writes := ws })
  | [] =>
    if a.unacknowledged = 0 then
      a.publish.map fun w => (w, .publish a.newProducer a.newWrap, { a with publish := none })
    else none

/-- The lowest-numbered free tag (R118). -/
def SpillEngine.freeTag (e : SpillEngine) : Option Nat := e.tags.findIdx? (· == .free)

/-- A write of the engine stands presented on the D-port (R118). -/
def State.spillPresented (s : State) : Bool :=
  match s.transit.dPort with
  | some p => p.claimant == .spill
  | none => false

/-- The engine's next write ready, with its tag, the lowest-numbered free one (R118); none while it claims nothing. INIT's
second write too takes that tag, which may be the descriptor's own where the descriptor was acknowledged before: the model's
choice where R130 says separate tags (log entry 34). -/
def State.spillClaim (s : State) : Option (Nat × SpillWrite × WriteRole × Attempt) :=
  if s.spill.tags.any TagState.isStale || s.spillPresented then none
  else
    match s.spill.freeTag, s.spill.attempt.bind Attempt.nextWrite with
    | some t, some n => some (t, n)
    | _, _ => none

/-- A spill write as a request message: a WRITE under initiator 15 with every byte mask full (R118). -/
def spillRequest (tag : Nat) (w : SpillWrite) : Request :=
  { kind := .write, initiator := 15, tag := BitVec.ofNat 6 tag, address := BitVec.ofNat 40 w.address,
    beats := w.cells.length, data := w.cells.map fun c => ⟨c, fullMask⟩ }

/-- A granted spill write: presented, its tag in use from now on (R12, R118). -/
def State.grantSpill (s : State) (t : Nat) (w : SpillWrite) (role : WriteRole) (a : Attempt) : State :=
  { s with
    transit := { s.transit with dPort := some ⟨spillRequest t w, .spill⟩ },
    spill := { s.spill with attempt := some a,
                            tags := s.spill.tags.set t (.inUse { role := role, stale := false, taken := false }) } }

/-- The memory controller takes the spill write of a tag: outstanding from now on (R12, R119). -/
def State.spillTaken (s : State) (t : Nat) : State :=
  { s with spill := { s.spill with tags := s.spill.tags.modify t fun g =>
      match g with
      | .inUse u => .inUse { u with taken := true }
      | g => g } }

/-! ## Responses (R119–R122, R130, R131) -/

/-- A write of an ended attempt is stale (R112). -/
def TagState.toStale : TagState → TagState
  | .inUse u => .inUse { u with stale := true }
  | g => g

/-- The attempt ends and its writes in use become stale (R122, R131). -/
def State.endAttempt (s : State) (e : EngineState) : State :=
  { s with spill := { s.spill with engine := e, attempt := none, tags := s.spill.tags.map TagState.toStale } }

/-- The attempt fails (R122). -/
def State.failAttempt (s : State) (cause : FaultCause) : State :=
  ((s.endAttempt (.fault cause)).setHead .ready).raise .spillFault

/-- The offsets a publish has put into the producer word (R120, R131). -/
def State.setProducer (s : State) (producer : Nat) (wrap : Word) : State :=
  { s with spill := { s.spill with producer := producer, wrapCount := wrap } }

/-- A write before the publish is acknowledged OKAY (R119): INIT completes at its last (R130), and another attempt enters
PUBLISH (R120, R121). -/
def State.bodyAcknowledged (s : State) (a : Attempt) : State :=
  let a' := { a with unacknowledged := a.unacknowledged - 1 }
  if a'.unacknowledged = 0 then
    match a.kind with
    | .init => (s.restEngine .idle).takeHead
    | .record | .loneWrap => s.beginAttempt .publish a'
  else { s with spill := { s.spill with attempt := some a' } }

/-- The publish of a record attempt is acknowledged OKAY (R120). -/
def State.recordPublished (s : State) (producer : Nat) (wrap : Word) : State :=
  ((((s.setProducer producer wrap).removeHead).count .spilled).restEngine .idle).takeHead

/-- The publish of a lone wrap is acknowledged OKAY (R121): the head is placed again, from offset 0. -/
def State.loneWrapPublished (s : State) (producer : Nat) (wrap : Word) : State :=
  ((s.setProducer producer wrap).restEngine .idle).placeHead

/-- The fault cause a FAULT answer gives an attempt (R119). -/
def faultCauseOf (k : AttemptKind) (role : WriteRole) : FaultCause :=
  match k, role with
  | .init, _ => .initFault
  | _, .body => .writeFault
  | _, .publish _ _ => .publishFault

/-- A response to a write of the current attempt acts (R119). -/
def State.currentAnswered (s : State) (a : Attempt) (role : WriteRole) (status : Status) : State :=
  match status, role with
  | .fault, _ => s.failAttempt (faultCauseOf a.kind role)
  | .okay, .body => s.bodyAcknowledged a
  | .okay, .publish p w =>
    match a.kind with
    | .loneWrap => s.loneWrapPublished p w
    | .record | .init => s.recordPublished p w

/-- A response to a stale write is absorbed; a stale publish answered OKAY sets the offsets it carried, and either answer
lets an IDLE engine take the head (R119, R131). -/
def State.staleAnswered (s : State) (role : WriteRole) (status : Status) : State :=
  match role with
  | .body => s
  | .publish p w =>
    match status with
    | .okay => (s.setProducer p w).takeHead
    | .fault => s.takeHead

/-- A tag is free again. -/
def State.freeTag (s : State) (t : Nat) : State :=
  { s with spill := { s.spill with tags := s.spill.tags.set t .free } }

/-- A response under initiator 15 (R119), with whether it matched a spill write. A response under a lost tag matches none
and clears the mark (R132). -/
def State.spillResponse (s : State) (tag : Tag) (status : Status) : State × Bool :=
  match s.spill.tags[tag.toNat]? with
  | some (.inUse u) =>
    if u.taken then
      let s := s.freeTag tag.toNat
      if u.stale then (s.staleAnswered u.role status, true)
      else
        match s.spill.attempt with
        | some a => (s.currentAnswered a u.role status, true)
        | none => (s, true)
    else (s, false)
  | some .lost => (s.freeTag tag.toNat, false)
  | some .free | none => (s, false)

/-! ## The consumer word (6.6) -/

/-- The distance forward from one offset to another round the area (R127). -/
def forwardDistance (area start stop : Nat) : Nat := (stop + area - start) % area

/-- The three tests of R127. -/
def State.consumerAllowed (s : State) (v : Nat) : Bool :=
  let a := s.config.active.area
  v % 8 == 0 && v < a &&
    forwardDistance a s.spill.consumer v ≤ forwardDistance a s.spill.consumer s.spill.producer

/-- A well-formed consumer offset is accepted or rejected (R127); in WAIT_SPACE an accepted one places the head again
(R116). -/
def State.judgeConsumer (s : State) (v : Nat) : State :=
  if s.consumerAllowed v then
    let s := { s with spill := { s.spill with consumer := v } }
    if s.spill.engine = .waitSpace then s.placeHead else s
  else s.raise .badConsumer

/-- A CONSUMER snoop beat is offered (R126). -/
def State.consumerOffer (s : State) (sn : Snoop) : State :=
  if s.spill.engine = .off then s
  else if sn.beats = 1 ∧ sn.beat.mask = fullMask then s.judgeConsumer (consumerField sn.beat.value)
  else s.count .consumerMalformed

/-! ## Recovery (R124, R125) -/

/-- SPILL_RESUME (R124). -/
def State.spillResume (s : State) : State × Result :=
  match s.spill.engine with
  | .fault .initFault => (s.startInit, .done)
  | .fault .writeFault | .fault .publishFault | .fault .oversize => (s.placeHead, .done)
  | .off | .init | .idle | .waitSpace | .writing | .publish => (s, .refused)

/-- SPILL_SKIP (R125). -/
def State.spillSkip (s : State) : State × Result :=
  match s.spill.engine with
  | .fault .writeFault | .fault .publishFault | .fault .oversize =>
    ((((s.removeHead).count .skipped).restEngine .idle).takeHead, .done)
  | .fault .initFault | .off | .init | .idle | .waitSpace | .writing | .publish => (s, .refused)

/-! ## Apply and resets (R129, R131, R132) -/

/-- A stale publish whose offsets an apply has replaced changes none when it is answered (R131; log entry 20). -/
def TagState.dropPublish : TagState → TagState
  | .inUse u => if u.stale then .inUse { u with role := .body } else .inUse u
  | g => g

/-- An apply that changed the route, the base or the size has taken effect (R129). -/
def State.spillGeometryChanged (s : State) : State :=
  if s.config.active.drainRoute? = some .spill ∧ s.config.active.ringValid = true then
    ({ s with spill := { s.spill with producer := 0, wrapCount := 0, consumer := 0,
                                      tags := s.spill.tags.map TagState.dropPublish } }).startInit
  else s.restEngine .off

/-- CAPTURE_RESET at the engine (R131). -/
def State.spillCaptureReset (s : State) : State :=
  match s.spill.engine with
  | .off | .init | .fault .initFault => s
  | .idle | .waitSpace | .writing | .publish | .fault .writeFault | .fault .publishFault | .fault .oversize =>
    s.endAttempt .idle

/-- A tag at the end of a FULL_RESET: in use becomes lost (R132). -/
def TagState.toLost : TagState → TagState
  | .inUse _ => .lost
  | g => g

/-- FULL_RESET at the engine (R132). -/
def SpillEngine.fullReset (e : SpillEngine) : SpillEngine :=
  { SpillEngine.reset with tags := e.tags.map TagState.toLost }

end Sys2Proof.Machine
end

