-- ==== Sys2Proof/Machine/Records.lean ====
section
/-! DEFINITION. The record store and the fire (Chapters 4 and 5): entering a stage, opening a record and its pre part,
the post part, retriggers, and closing. -/

namespace Sys2Proof.Machine

/-! ## Stages (R62) -/

/-- The trigger unit enters a state. -/
def State.setTrigger (s : State) (t : TriggerState) : State :=
  { s with trigger := { s.trigger with state := t } }

/-- A stage just entered (R62): a fresh window, and a timer from 0 where the stage is 1–3 with a nonzero timeout. -/
def freshStage (p : ParamSet) (n : Nat) : ArmedStage :=
  { stage := n, outcomes := [], cumulative := 0,
    timer := if n = 0 ∨ (p.stage n).timeout = 0 then none else some 0 }

/-- The trigger unit enters a stage (R62). -/
def State.enterStage (s : State) (n : Nat) : State :=
  s.setTrigger (.armed (freshStage s.config.active n))

/-- A completed record leaves CAPTURING by the repeat mode (R75). -/
def State.leaveCapture (s : State) : State :=
  if s.config.active.repeatMode? = some .repeating then s.enterStage 0 else s.setTrigger .disarmed

/-! ## Suppression (R94) -/

/-- An observation is suppressed: its initiator is in the SUPPRESS mask and its hit set is empty (R94). -/
def suppresses (p : ParamSet) (o : Observation) : Bool :=
  match o.body.initiator with
  | some i => p.suppress.getLsbD i.toNat && o.hits == 0
  | none => false

/-! ## Closing (R100) -/

/-- The store's part of a close (R100, 1–5): the record's cells join the directory at the tail, READY, the reservation is
released, and the close is counted. -/
def State.fileRecord (s : State) (r : OpenRecord) : State :=
  let s := { s with store := { s.store with
      directory := s.store.directory ++ [DirectoryEntry.mk r.number r.cells .ready],
      openRecord := none, reservation := 0 } }
  let s := s.count .recordsClosed
  let s := if r.truncated then s.count .truncated else s
  if r.aborted then s.count .aborted else s

/-- A record closes (R100): the trigger unit is told (R75, R76), an IDLE spill engine takes a new head (R117), and
STORE_LOW's readers follow. -/
def State.closeRecord (s : State) (r : OpenRecord) : State :=
  let s := s.fileRecord r
  let s := if r.aborted then s.setTrigger .disarmed else s.leaveCapture
  s.takeHead.followHold

/-! ## The fire (R69–R71, R89–R91, R97) -/

/-- The pre part walk from the newest entry (R91): the ring with the walked entries claimed, the kept observations in
sequence order, and how many were suppressed. -/
def preWalk (p : ParamSet) (limit : Nat) : List RingEntry → List Observation → List RingEntry × List Observation × Nat
  | [], kept => ([], kept, 0)
  | e :: es, kept =>
    if limit ≤ kept.length ∨ e.claimed = true then (e :: es, kept, 0)
    else if suppresses p e.obs then
      let w := preWalk p limit es kept
      ({ e with claimed := true } :: w.1, w.2.1, w.2.2 + 1)
    else
      let w := preWalk p limit es (e.obs :: kept)
      ({ e with claimed := true } :: w.1, w.2.1, w.2.2)

/-- The limit of the walk: P + 1 with a trigger observation, P without one (R91). -/
def walkLimit (p : ParamSet) (withObservation : Bool) : Nat :=
  p.preCount.toNat + (if withObservation then 1 else 0)

/-- The record an accepted fire opens (R90). No tick falls within a path, so the trigger time is the timestamp of the trigger
observation, where R90 allows a few ticks more: the model's choice (log entry 33). -/
def State.newRecord (s : State) (cause : TriggerCause) (withObservation : Bool) : OpenRecord :=
  let p := s.config.active
  let w := preWalk p (walkLimit p withObservation) s.observer.ring []
  { number := s.store.nextNumber, generation := s.config.generation, cause := cause, triggerTime := s.aligned,
    epoch := s.clock.epoch, observations := w.2.1, preCount := w.2.1.length,
    triggerIndex := if withObservation then some (w.2.1.length - 1) else none,
    postRemaining := p.postCount.toNat, suppressed := satAdd 0 w.2.2, nested := 0, truncated := false,
    aborted := false, extended := false, epochChanged := false }

/-- The store accepts a fire (R70, R90, R91): R cells reserved, the record numbered and opened, the walk claimed, the
unit CAPTURING, TRIGOUT raised where enabled, the fire counted. -/
def State.openFor (s : State) (cause : TriggerCause) (withObservation : Bool) : State :=
  let p := s.config.active
  let w := preWalk p (walkLimit p withObservation) s.observer.ring []
  (({ s with
      store := { s.store with openRecord := some (s.newRecord cause withObservation), reservation := p.reservation,
                              nextNumber := s.store.nextNumber + 1 },
      observer := { s.observer with ring := w.1 },
      trigger := { s.trigger with state := .capturing,
                                  trigout := if p.trigoutEnable then some 0 else s.trigger.trigout } }).count
    .fires).countBy .suppressed w.2.2

/-- A refused fire (R71). -/
def State.refuseFire (s : State) : State :=
  ((s.raise .fireRefused).count .refused).enterStage 0

/-- A fire (R69): the store accepts or refuses it at once (R89); with Q = 0 the record closes at the fire (R97), and hold
follows only after that close: the model's choice (log entry 19). -/
def State.fire (s : State) (cause : TriggerCause) (withObservation : Bool) : State :=
  if s.fireFits then
    let t := s.openFor cause withObservation
    if s.config.active.postCount = 0 then t.closeRecord (s.newRecord cause withObservation) else t.followHold
  else s.refuseFire

/-! ## Retriggers (R72–R74, R95) -/

/-- A retrigger at the open record (R95). -/
def OpenRecord.retriggered (r : OpenRecord) (p : ParamSet) : OpenRecord :=
  let r := { r with nested := min (r.nested + 1) 255 }
  if p.retriggerMode? = some .extend then { r with postRemaining := p.postCount.toNat, extended := true } else r

/-- A retrigger (R72, R95): the nested counter counts and the open record takes it. -/
def State.retrigger (s : State) : State :=
  ({ s with store := { s.store with
      openRecord := s.store.openRecord.map fun r : OpenRecord => r.retriggered s.config.active } }).count .nested

/-! ## The post part (R93) -/

/-- What step 3 of an observation's path leaves: the state, whether the observation is claimed, and whether it closed the
record (R40, R42). -/
structure Offered where
  state : State
  claimed : Bool
  closed : Bool

/-- A record with one more kept observation (R92, R93). -/
def OpenRecord.keep (r : OpenRecord) (o : Observation) : OpenRecord :=
  { r with observations := r.observations ++ [o], postRemaining := r.postRemaining - 1 }

/-- The offer of an observation to the open record (R93): suppressed, kept, or kept as its last. -/
def State.offer (s : State) (o : Observation) : Offered :=
  match s.store.openRecord with
  | none => { state := s, claimed := false, closed := false }
  | some r =>
    if suppresses s.config.active o then
      { state := ({ s with store := { s.store with
          openRecord := some { r with suppressed := satSucc r.suppressed } } }).count .suppressed,
        claimed := true, closed := false }
    else
      let r := r.keep o
      if r.postRemaining = 0 then { state := s.closeRecord r, claimed := true, closed := true }
      else if r.observations.length = s.config.active.maxObs.toNat then
        { state := s.closeRecord { r with truncated := true }, claimed := true, closed := true }
      else { state := { s with store := { s.store with openRecord := some r } }, claimed := true, closed := false }

/-! ## Abort and epoch change (R98, R99) -/

/-- The open record is aborted (R76, R98). -/
def State.abortRecord (s : State) : State :=
  match s.store.openRecord with
  | some r => s.closeRecord { r with aborted := true }
  | none => s.setTrigger .disarmed

/-- The store is told of an epoch change (R99). -/
def State.tellEpochChange (s : State) : State :=
  { s with store := { s.store with openRecord := s.store.openRecord.map fun r : OpenRecord => { r with epochChanged := true } } }

end Sys2Proof.Machine
end

