-- ==== Sys2Proof/Machine/Trigger.lean ====
section
/-! DEFINITION. The trigger unit's evaluations and commands (Chapter 4): stage windows, observations, TRIGIN edges, ARM,
DISARM and FORCE. -/

namespace Sys2Proof.Machine

/-- An observation hits a stage: its hit set holds a member of S (R63). -/
def hitsStage (d : StageDef) (o : Observation) : Bool := (o.hits &&& d.watchSet) != 0

/-- The window of a HITS stage with one more outcome (R63): the newest W outcomes for W > 0, a count of hits up to 64 for
W = 0. -/
def ArmedStage.withOutcome (a : ArmedStage) (d : StageDef) (hit : Bool) : ArmedStage :=
  if d.window = 0 then { a with cumulative := min 64 (a.cumulative + if hit then 1 else 0) }
  else
    let os := a.outcomes ++ [hit]
    { a with outcomes := if d.window.toNat < os.length then os.tail else os }

/-- The number of hits the window holds (R60, R63). -/
def ArmedStage.hitCount (a : ArmedStage) (d : StageDef) : Nat :=
  if d.window = 0 then a.cumulative else a.outcomes.count true

/-- A satisfied stage's action follows at once: advance for NEXT (R66), fire for FIRE (R69). -/
def State.satisfyStage (s : State) (n : Nat) (withObservation : Bool) : State :=
  match (s.config.active.stage n).action? with
  | some .next => s.enterStage (n + 1)
  | some .fire => s.fire .stage withObservation
  | none => s

/-- An observation evaluated by a HITS stage (R63). -/
def State.evaluateHits (s : State) (a : ArmedStage) (d : StageDef) (o : Observation) : State :=
  let a := a.withOutcome d (hitsStage d o)
  if d.count.toNat ≤ a.hitCount d then s.satisfyStage a.stage true else s.setTrigger (.armed a)

/-- The observation is a MARK with cause SLIP (R65). -/
def Observation.isSlip (o : Observation) : Bool :=
  o.body.kind == .mark && o.body.cause == some .slip

/-- The observation is a retrigger of the open record: the fire stage is HITS and it hits its set (R72). -/
def retriggers (p : ParamSet) (o : Observation) : Bool :=
  match p.fireStage? with
  | some d => d.condition? == some .hits && hitsStage d o
  | none => false

/-- Step 5 of an observation's path (R42): the stage condition while ARMED, the retrigger test while CAPTURING. -/
def State.evaluateTrigger (s : State) (o : Observation) : State :=
  match s.trigger.state with
  | .disarmed => s
  | .armed a =>
    let d := s.config.active.stage a.stage
    match d.condition? with
    | some .hits => s.evaluateHits a d o
    | some .slip => if o.isSlip then s.satisfyStage a.stage true else s
    | some .line | none => s
  | .capturing => if retriggers s.config.active o then s.retrigger else s

/-- A TRIGIN edge that is seen, by the TRIGIN mode and the unit's state (R80). -/
def State.triginEdgeSeen (s : State) : State :=
  match s.config.active.triginMode?, s.trigger.state with
  | some .stage, .armed a =>
    if (s.config.active.stage a.stage).condition? = some .line then s.satisfyStage a.stage false else s
  | some .direct, .armed _ => s.fire .lineDirect false
  | some .stage, .capturing => s.retrigger
  | some .direct, .capturing => s.retrigger
  | _, _ => s

/-- ARM (R77). -/
def State.armUnit (s : State) : State × Result :=
  match s.trigger.state with
  | .disarmed => if s.config.active.mode? = some .observe then (s.enterStage 0, .done) else (s, .refused)
  | .armed _ | .capturing => (s, .done)

/-- DISARM (R78). -/
def State.disarmUnit (s : State) : State :=
  match s.trigger.state with
  | .disarmed => s
  | .armed _ => s.setTrigger .disarmed
  | .capturing => s.abortRecord

/-- FORCE with its trigger cause (R79). -/
def State.forceUnit (s : State) (cause : TriggerCause) : State × Result :=
  match s.trigger.state with
  | .disarmed => (s, .refused)
  | .armed _ => (s.fire cause false, .done)
  | .capturing => (s.retrigger, .done)

/-- The current stage's timer has reached its timeout (R67). -/
def State.stageTimedOut (s : State) : Bool :=
  match s.trigger.state with
  | .armed a =>
    (match a.timer with
     | some t => (s.config.active.stage a.stage).timeout.toNat ≤ t
     | none => false)
  | _ => false

end Sys2Proof.Machine
end

