-- ==== Sys2Proof/Machine/Apply.lean ====
section
/-! DEFINITION. What a pending apply waits for and what it does when it takes effect (8.2, R154, R155). -/

namespace Sys2Proof.Machine

/-- The pending apply waits on the spill engine: it changes route, base or size while the engine is in WRITING, PUBLISH
or INIT (R154). -/
def State.applyWaitsOnSpill (s : State) : Bool :=
  s.config.staged.geometryDiffers s.config.active &&
    (s.spill.engine == .writing || s.spill.engine == .publish || s.spill.engine == .init)

/-- A pending apply has no obstacle left (R154). -/
def State.applyDue (s : State) : Bool :=
  s.config.applyPending && !s.capturing && !s.applyWaitsOnSpill

/-- The new set in force: STAGED copied into ACTIVE, the next generation, every ring entry claimed, the pending state
clear (R155, 1, 2 and 7). -/
def State.installStaged (s : State) : State :=
  { s with
    config := { s.config with active := s.config.staged, generation := s.config.generation + 1,
                              applyPending := false },
    observer := { s.observer with ring := s.observer.ring.map fun e => { e with claimed := true } } }

/-- The trigger unit at an apply (R83). -/
def State.applyTrigger (s : State) : State :=
  match s.trigger.state with
  | .armed _ => if s.config.active.mode? = some .observe then s.enterStage 0 else s.setTrigger .disarmed
  | .disarmed | .capturing => s

/-- Hold at an apply: HOLD follows the new set (R26), and an episode that still lasts, at or past the new limit, expires (R27).
Where the one apply both ends HOLD and sets a limit at or below the running timer, the episode ends by R26 and does not expire:
the model's choice (log entry 32). An episode that starts here is counted, and one that expires here sets HOLD_EXPIRED and is
counted, as R26 and R27 say: the model's choice where R155 and R179's apply row leave every counter and every sticky condition
but APPLY_DONE unchanged (log entry 35). -/
def State.applyHold (s : State) : State :=
  let s := s.followHold
  if s.holdLimitReached then s.expireHold else s

/-- The loss watch at an apply: IDLE when the new mode is OFF, else as it is (R144). -/
def State.applyLossWatch (s : State) : State :=
  if s.config.active.syncMode? = some .off then { s with clock := { s.clock with lossWatch := .idle } } else s

/-- A pending apply takes effect, as one event (R155). -/
def State.takeEffect (s : State) : State :=
  let t := s.installStaged.applyTrigger
  let t := if s.config.staged.geometryDiffers s.config.active then t.spillGeometryChanged else t
  (t.applyLossWatch.applyHold).raise .applyDone

/-- A pending apply with no obstacle left is taken before any other event (R154; log entry 4): before the next command or
event of the part, the taking of a waiting request among them (log entry 31), and between the observation and the offer of
one response (log entry 30). -/
def State.takeDueApply (s : State) : State := if s.applyDue then s.takeEffect else s

end Sys2Proof.Machine
end

