-- ==== Sys2Proof/Machine/Observe.lean ====
section
/-! DEFINITION. The observation unit and the watch table (Chapters 2 and 3): which events are observed, the six tests, the
hit set and its statistics, and the five-step path of an observation. -/

namespace Sys2Proof.Machine

/-- Whether an event makes an observation (R32, R36): the mode is OBSERVE, and SELF_QUIET does not drop it. -/
def State.observes (s : State) (b : ObsBody) : Bool :=
  s.config.active.mode? == some .observe && !(s.config.active.selfQuiet && b.inQuietRegion s.config.active)

/-! ## The six tests (3.3) -/

/-- The kind test (R50). -/
def WatchEntry.kindTest (e : WatchEntry) (b : ObsBody) : Bool := e.kinds.getLsbD b.kind.code.toNat

/-- The address test (R51): a byte of the burst lies from low to high. -/
def WatchEntry.addressTest (e : WatchEntry) (b : ObsBody) : Bool :=
  if e.hasRange then
    match b.address, b.beats with
    | some a, some n => 0 < n && e.low.toNat ≤ e.high.toNat && a.toNat ≤ e.high.toNat && e.low.toNat < a.toNat + 8 * n
    | _, _ => false
  else true

/-- The initiator test (R52): a MARK passes, initiator 15 fails. -/
def WatchEntry.initiatorTest (e : WatchEntry) (b : ObsBody) : Bool :=
  match b.initiator with
  | some i => e.initiators.getLsbD i.toNat
  | none => true

/-- The status test (R53). -/
def WatchEntry.statusTest (e : WatchEntry) (b : ObsBody) : Bool :=
  match e.statusFilter? with
  | some .any => true
  | some .okay => b.status == some .okay
  | some .fault => b.status == some .fault
  | none => false

/-- The latency test (R54). -/
def WatchEntry.latencyTest (e : WatchEntry) (b : ObsBody) : Bool :=
  if e.floor = 0 then true
  else
    match b.latency with
    | some l => e.floor.toNat ≤ l
    | none => false

/-- The data test (R55): at every bit of the compare mask, the beat under test has the bit of the compare value. -/
def WatchEntry.dataTest (e : WatchEntry) (beat : Option Beat) : Bool :=
  if e.hasCompare then
    match beat with
    | some b => (maskedValue b &&& e.compareMask) == (e.compareValue &&& e.compareMask)
    | none => false
  else true

/-- An enabled entry hits when every one of its six tests passes (R49). -/
def WatchEntry.isHit (e : WatchEntry) (b : ObsBody) (beat : Option Beat) : Bool :=
  e.enabled && e.kindTest b && e.addressTest b && e.initiatorTest b && e.statusTest b && e.latencyTest b &&
    e.dataTest beat

/-- The hit set of an observation: bit n set when entry n hits (R49). -/
def hitSet (entries : List WatchEntry) (b : ObsBody) (beat : Option Beat) : BitVec 16 :=
  entries.zipIdx.foldl (fun m p => if p.1.isHit b beat then m ||| (1 : BitVec 16) <<< p.2 else m) 0

/-- Some entry in the hit set has data capture on (R56). -/
def capturesData (entries : List WatchEntry) (hits : BitVec 16) : Bool :=
  entries.zipIdx.any fun p => hits.getLsbD p.2 && p.1.capture

/-- The statistics of one hitting entry (R57). -/
def WatchStat.hit (w : WatchStat) (o : Observation) : WatchStat :=
  { hits := satSucc w.hits, lastSequence := some o.sequence,
    maxLatency :=
      match o.body.latency, w.maxLatency with
      | some l, some m => some (max m l)
      | some l, none => some l
      | none, m => m }

/-- The statistics after an observation's step 2: those of the hitting entries (R57). -/
def hitStats (stats : List WatchStat) (o : Observation) : List WatchStat :=
  stats.zipIdx.map fun p => if o.hits.getLsbD p.2 then p.1.hit o else p.1

/-! ## The path (R40) -/

/-- Steps 1 and 2: the observation with its number, timestamp, hit set and data beat (R38, R49, R56). The rest of the path
follows in the same tick: the model's choice (log entry 33). -/
def State.makeObservation (s : State) (b : ObsBody) (beat : Option Beat) : Observation :=
  let hits := hitSet s.config.active.watch b beat
  { sequence := s.observer.sequence, timestamp := s.aligned, body := b, hits := hits,
    dataBeat := if capturesData s.config.active.watch hits then beat else none }

/-- Steps 1 and 2 at the state: the counter advances and counts, the statistics are updated (R38, R57). -/
def State.numbered (s : State) (o : Observation) : State :=
  ({ s with observer := { s.observer with sequence := s.observer.sequence + 1 },
            watchStats := hitStats s.watchStats o }).count .observationsMade

/-- Step 4: the observation enters the ring as its newest entry, displacing the oldest of 512 (R43). -/
def State.enterRing (s : State) (o : Observation) (claimed : Bool) : State :=
  { s with observer := { s.observer with
      ring := (RingEntry.mk o claimed :: s.observer.ring).take Config.ringEntries } }

/-- The path of an observation (R40): numbering and watch evaluation, the offer to the open record, entry into the ring,
and trigger evaluation, which an observation that closed a record does not reach (R42). -/
def State.observationPath (s : State) (b : ObsBody) (beat : Option Beat) : State :=
  let o := s.makeObservation b beat
  let r := (s.numbered o).offer o
  let t := r.state.enterRing o r.claimed
  if r.closed then t else t.evaluateTrigger o

/-- An event asks for an observation (R32, R36, R40). -/
def State.observe (s : State) (b : ObsBody) (beat : Option Beat) : State :=
  if s.observes b then s.observationPath b beat else s

/-- A MARK observation with a cause, and the mark value of a software mark (R34). -/
def markBody (cause : MarkCause) (value : Option Word) : ObsBody :=
  { kind := .mark, cause := some cause, markValue := value }

/-! ## The control-word decoder (Chapter 9) -/

/-- A command word that passes R167 is decoded and acts (R168–R170). -/
def State.decodeCommand (s : State) (v : Cell) : State :=
  let c := commandCode v
  if c = 0x01 then (s.armUnit.1).count .controlInterpreted
  else if c = 0x02 then (s.disarmUnit).count .controlInterpreted
  else if c = 0x03 then ((s.forceUnit .forceWord).1).count .controlInterpreted
  else if c = 0x04 then (s.observe (markBody .software (some (commandArgument v))) none).count .controlInterpreted
  else if c = 0x05 then (s.clearCounters).count .controlInterpreted
  else s.raise .badControl

/-- A COMMAND snoop beat is offered (R167). -/
def State.commandOffer (s : State) (sn : Snoop) (i : Initiator) : State :=
  if s.config.active.pageEnable = false then s
  else if s.config.active.permit.getLsbD i.toNat = false then s.count .controlUnpermitted
  else if sn.beat.mask ≠ fullMask then s.count .controlMalformed
  else s.decodeCommand sn.beat.value

/-- A snoop beat is offered to the block that owns its word (R21). -/
def State.snoopOffer (s : State) (sn : Snoop) (i : Initiator) : State :=
  match sn.word with
  | .command => s.commandOffer sn i
  | .consumer => s.consumerOffer sn

/-- The observation and the offer of one response (R15, R21). With an offer, either of the two is first, by a free choice
(R68, R58, R171; log entry 7), and nothing but a due apply comes between them: an event that leaves the pending apply no
obstacle is followed by the apply before the trigger unit or the spill engine takes the other one, which then meets the
new set (R154, R171; log entry 30). -/
def State.observeAndOffer (s : State) (b : ObsBody) (beat : Option Beat) (offer : Option Snoop) (i : Initiator) :
    State :=
  match offer with
  | none => s.observe b beat
  | some sn =>
    let t := s.spendChoices 1
    if Config.observationFirst s.freeIndex then ((t.observe b beat).takeDueApply).snoopOffer sn i
    else ((t.snoopOffer sn i).takeDueApply).observe b beat

end Sys2Proof.Machine
end

