-- ==== Sys2Proof/Machine/Transit.lean ====
section
/-! DEFINITION. The transit unit (Chapter 1): admission, the answer order, the arbiter, memory responses and overdue
expiries. -/

namespace Sys2Proof.Machine

/-! ## The table -/

/-- The key of a request. -/
def keyOf (r : Request) : Key := ⟨r.initiator, r.tag⟩

/-- The entry of one take, changed (R8). -/
def State.updateEntry (s : State) (id : Nat) (f : Entry → Entry) : State :=
  { s with transit := { s.transit with table := s.transit.table.map fun e => if e.id = id then f e else e } }

/-- The response sent upstream for an entry (R18). -/
def Entry.response (e : Entry) (c : Content) : Response :=
  { kind := e.kind, initiator := e.key.initiator, tag := e.key.tag, status := c.status, data := c.data }

/-- The part's own answer: FAULT, and for a READ zero data values (R5, R24, R25, R29). -/
def faultContent (kind : Access) (beats : Nat) : Content :=
  { status := .fault, data := if kind = .read then List.replicate beats 0 else [] }

/-- An entry stays in the table unless its answer is SENT and its path NONE (R9). -/
def keepUnfreed (e : Entry) (t : List Entry) : List Entry :=
  match e.answer, e.path with
  | .sent _, .none => t
  | _, _ => e :: t

/-- One key's READY answers leave in take order up to its first PENDING one, and freed entries leave the table (R18, R9):
the table after it, and the responses sent. -/
def releaseKey (k : Key) : List Entry → List Entry × List Response
  | [] => ([], [])
  | e :: es =>
    if e.key = k then
      match e.answer with
      | .pending => (e :: es, [])
      | .ready c =>
        let r := releaseKey k es
        (keepUnfreed { e with answer := .sent c } r.1, e.response c :: r.2)
      | .sent _ =>
        let r := releaseKey k es
        (keepUnfreed e r.1, r.2)
    else
      let r := releaseKey k es
      (e :: r.1, r.2)

/-- READY answers of a key are sent as R18 allows, and freed entries leave (R9). -/
def State.release (s : State) (k : Key) : State :=
  let r := releaseKey k s.transit.table
  { s with transit := { s.transit with table := r.1 },
           outputs := { s.outputs with upstream := s.outputs.upstream ++ r.2 } }

/-! ## Admission (1.2) -/

/-- No obstacle of R3 remains and a request is presented. -/
def State.canTake (s : State) : Bool :=
  s.transit.upstream.isSome && s.transit.table.length < Config.transitEntries && !s.holdInForce && !s.quiescing

/-- A request is presented on the U-port (R3, R26). One already presented stays, unchanged (R1; log entry 23). -/
def State.presentRequest (s : State) (r : Request) : State :=
  if s.transit.upstream.isSome then s
  else
    let s := { s with transit := { s.transit with upstream := some r } }
    let s := if Config.transitEntries ≤ s.transit.table.length then s.raise .tableFull else s
    s.followHold

/-- The entry of a taken request, less what the decline checks decide (R6, R7). -/
def State.newEntry (s : State) (r : Request) (origin : Origin) (path : Path) (down : Downstream) (answer : Answer)
    (snoop : Option Snoop) : Entry :=
  { id := s.transit.takes, key := keyOf r, kind := r.kind, address := r.address, beats := r.beats,
    firstBeat := if r.kind = .write then r.data.head? else none, snoop := snoop, takeTime := s.clock.raw,
    deadline :=
      if s.config.active.overdueLimit = 0 then none
      else some (s.clock.raw + s.config.active.overdueLimit.setWidth 48),
    origin := origin, path := path, downstream := down, answer := answer, overdueSeen := false }

/-- An entry joins the tail of the table, the U-port channel is free (R1, R5, R6). -/
def State.joinTable (s : State) (e : Entry) : State :=
  { s with transit := { s.transit with upstream := none, table := s.transit.table ++ [e],
                                       takes := s.transit.takes + 1 } }

/-- The declined counter of a reason (R5, R176). -/
def declinedCounter : DeclineReason → Counter
  | .initiator => .declinedInitiator
  | .boundary => .declinedBoundary
  | .window => .declinedWindow

/-- The DECLINED observation of a request (R34). -/
def declinedBody (r : Request) (d : DeclineReason) : ObsBody :=
  { kind := .declined, access := some r.kind, initiator := some r.initiator, tag := some r.tag,
    address := some r.address, beats := some r.beats, status := some .fault, reason := some d }

/-- A declined request (R5). -/
def State.takeDeclined (s : State) (r : Request) (d : DeclineReason) : State :=
  let e := s.newEntry r (.declined d) .none .notSent (.ready (faultContent r.kind r.beats)) none
  ((((s.joinTable e).count (declinedCounter d)).observe (declinedBody r d) none)).release (keyOf r)

/-- An accepted request (R6, R20). -/
def State.takeAccepted (s : State) (r : Request) : State :=
  let e := s.newEntry r .forwarded .queued .waiting .pending (snoopBeat s.config.active r)
  let t := s.joinTable e
  { t with transit := { t.transit with forwardQueue := t.transit.forwardQueue ++ [⟨e.id, r⟩] } }

/-- The part takes the presented request and applies the decline checks (R4). -/
def State.takeRequest (s : State) (r : Request) : State :=
  match declineReason s.config.active r with
  | some d => s.takeDeclined r d
  | none => s.takeAccepted r

/-! ## The D-port (1.4) -/

/-- The forward head is granted (R11, R12). -/
def State.grantForward (s : State) (q : QueuedRequest) (rest : List QueuedRequest) (run : Nat) : State :=
  ({ s with transit := { s.transit with forwardQueue := rest, dPort := some ⟨q.request, .forward q.id⟩,
                                        runCount := run } }).updateEntry q.id
    fun e => { e with downstream := .presented }

/-- The spill engine's next write is granted (R11, R12). -/
def State.grantSpillWrite (s : State) (c : Nat × SpillWrite × WriteRole × Attempt) : State :=
  let s := { s with transit := { s.transit with runCount := 0 } }
  s.grantSpill c.1 c.2.1 c.2.2.1 c.2.2.2

/-- The arbiter's decision (R11), made when the D-port request channel is free and someone claims. -/
def State.arbitrate (s : State) : State :=
  if s.transit.dPort.isSome then s
  else
    match s.transit.forwardQueue, s.spillClaim with
    | [], none => s
    | q :: rest, none => s.grantForward q rest 0
    | [], some c => s.grantSpillWrite c
    | q :: rest, some c =>
      if s.storeLow || s.config.active.share.toNat ≤ s.transit.runCount then s.grantSpillWrite c
      else s.grantForward q rest (s.transit.runCount + 1)

/-- An entry whose request the memory controller takes (R12): TAKEN, and ISSUED if it was QUEUED. -/
def Entry.takenDownstream (e : Entry) : Entry :=
  { e with downstream := .taken, path := if e.path = .queued then .issued else e.path }

/-- The memory controller takes the presented request and the channel is free (R12). -/
def State.takeDownstream (s : State) : State :=
  match s.transit.dPort with
  | none => s
  | some p =>
    let s := { s with transit := { s.transit with dPort := none } }
    match p.claimant with
    | .forward id => s.updateEntry id Entry.takenDownstream
    | .spill => s.spillTaken p.request.tag.toNat

/-! ## Memory responses (1.5) -/

/-- The ORPHAN observation of a response (R34). -/
def orphanBody (r : Response) : ObsBody :=
  { kind := .orphan, access := some r.kind, initiator := some r.initiator, tag := some r.tag,
    beats := some (if r.kind = .read then r.data.length else 0), status := some r.status }

/-- An orphan response (R17). -/
def State.orphanResponse (s : State) (r : Response) : State :=
  ((s.raise .orphan).count .orphan).observe (orphanBody r) none

/-- The data values of a READ answer: the response's, missing ones zero, those beyond the entry's beats dropped (R14). -/
def fitData (beats : Nat) (data : List Cell) : List Cell :=
  (data ++ List.replicate beats 0).take beats

/-- The answer content a matched response gives an ISSUED entry (R14, R15). -/
def Entry.answerContent (e : Entry) (r : Response) : Content :=
  { status := r.status, data := if e.kind = .read then fitData e.beats r.data else [] }

/-- The READ or WRITE observation of a matched response (R15, R34). -/
def Entry.finishedBody (e : Entry) (status : Status) (latency : Nat) : ObsBody :=
  { kind := if e.kind = .read then .read else .write, initiator := some e.key.initiator, tag := some e.key.tag,
    address := some e.address, beats := some e.beats, status := some status, latency := some latency,
    overdueSeen := some e.overdueSeen }

/-- The beat of a READ or WRITE observation (R35). -/
def Entry.observedBeat (e : Entry) (r : Response) : Option Beat :=
  match e.kind with
  | .write => e.firstBeat
  | .read => some ⟨if r.status = .fault then 0 else r.data.headD 0, fullMask⟩

/-- A response matches an ISSUED entry (R15, R21). -/
def State.issuedAnswered (s : State) (e : Entry) (r : Response) : State :=
  let t := s.updateEntry e.id fun e => { e with answer := .ready (e.answerContent r), path := .none }
  let offer := if e.kind = .write ∧ r.status = .okay then e.snoop else none
  (t.observeAndOffer (e.finishedBody r.status (s.latency e.takeTime)) (e.observedBeat r) offer e.key.initiator).release
    e.key

/-- The LATE observation of a response (R16, R34). -/
def Entry.lateBody (e : Entry) (status : Status) (latency : Nat) : ObsBody :=
  { kind := .late, access := some e.kind, initiator := some e.key.initiator, tag := some e.key.tag,
    address := some e.address, beats := some e.beats, status := some status, latency := some latency }

/-- A response matches a CUT entry (R16). -/
def State.cutAnswered (s : State) (e : Entry) (r : Response) : State :=
  let t := ((s.updateEntry e.id fun e => { e with path := .none }).raise .late).count .late
  (t.observe (e.lateBody r.status (s.latency e.takeTime)) none).release e.key

/-- An entry a response of its key may match: TAKEN, and ISSUED or CUT (R14). -/
def Entry.awaits (e : Entry) (k : Key) : Bool :=
  e.key == k && e.downstream == .taken && (e.path == .issued || e.path == .cut)

/-- A response of an initiator 0–14 (R14). -/
def State.memoryResponse (s : State) (r : Response) : State :=
  let k : Key := ⟨r.initiator, r.tag⟩
  let n := abandonedOf s.transit.abandoned k
  if n ≠ 0 then
    ({ s with transit := { s.transit with abandoned := setAbandoned s.transit.abandoned k (n - 1) } }).orphanResponse r
  else
    match s.transit.table.find? (·.awaits k) with
    | none => s.orphanResponse r
    | some e => if e.path = .cut then s.cutAnswered e r else s.issuedAnswered e r

/-- A response is taken on the D-port and routed by initiator (R13, R14). -/
def State.takeResponse (s : State) (r : Response) : State :=
  if r.initiator = 15 then
    let m := s.spillResponse r.tag r.status
    if m.2 then m.1 else m.1.orphanResponse r
  else s.memoryResponse r

/-! ## Overdue (1.8) -/

/-- The entry at a place of a key's list, 0 the oldest (R7). -/
def State.entryAt (s : State) (k : Key) (age : Nat) : Option Entry :=
  (s.transit.table.filter fun e => e.key == k)[age]?

/-- The entry's deadline is reached and its expiry takes effect (R22). -/
def State.expiryDue (s : State) (e : Entry) : Bool :=
  match e.deadline with
  | none => false
  | some d => (d - e.takeTime).toNat ≤ s.elapsed e.takeTime && e.answer == .pending && !e.overdueSeen

/-- The OVERDUE observation of an expiry (R23–R25, R34). -/
def Entry.overdueBody (e : Entry) (status : Option Status) (withdrawn : Bool) (latency : Nat) : ObsBody :=
  { kind := .overdue, access := some e.kind, initiator := some e.key.initiator, tag := some e.key.tag,
    address := some e.address, beats := some e.beats, status := status, latency := some latency,
    withdrawn := some withdrawn }

/-- The OVERDUE condition and counter (R23–R25). -/
def State.reportOverdue (s : State) : State := (s.raise .overdue).count .overdue

/-- An expiry under REPORT (R23). -/
def State.overdueReport (s : State) (e : Entry) : State :=
  ((s.updateEntry e.id fun e => { e with overdueSeen := true }).reportOverdue).observe
    (e.overdueBody none false (s.latency e.takeTime)) none

/-- An expiry under CUT of a granted request (R24). -/
def State.overdueCut (s : State) (e : Entry) : State :=
  let t := s.updateEntry e.id fun e => { e with answer := .ready (faultContent e.kind e.beats), path := .cut }
  ((t.reportOverdue).observe (e.overdueBody (some .fault) false (s.latency e.takeTime)) none).release e.key

/-- An expiry under CUT of a request still waiting: withdrawn (R25). -/
def State.overdueWithdraw (s : State) (e : Entry) : State :=
  let t := s.updateEntry e.id fun e =>
    { e with answer := .ready (faultContent e.kind e.beats), path := .none, downstream := .notSent }
  let t := { t with transit := { t.transit with
    forwardQueue := t.transit.forwardQueue.filter fun q => q.id != e.id } }
  ((t.reportOverdue).observe (e.overdueBody (some .fault) true (s.latency e.takeTime)) none).release e.key

/-- An expiry that takes effect, by the ACTIVE overdue action at the expiry (R22). -/
def State.expireEntry (s : State) (e : Entry) : State :=
  match s.config.active.overdueAction? with
  | some .report => s.overdueReport e
  | some .cut => if e.downstream = .waiting then s.overdueWithdraw e else s.overdueCut e
  | none => s

/-! ## The quiesce limit (R29) -/

/-- The quiesce timer has reached the quiesce limit (R28, R29). -/
def State.quiesceLimitReached (s : State) : Bool :=
  match s.transit.quiesceTimer with
  | some t => s.config.active.quiesceLimit.toNat ≤ t
  | none => false

/-- The answer an abandonment sends for an entry; none where it was sent before (R29). -/
def Entry.abandonedAnswer (e : Entry) : Option Response :=
  match e.answer with
  | .pending => some (e.response (faultContent e.kind e.beats))
  | .ready c => some (e.response c)
  | .sent _ => none

/-- A memory response is still due for an abandoned entry (R29). -/
def Entry.responseDue (e : Entry) : Bool :=
  e.path == .issued || (e.path == .queued && e.downstream == .presented) ||
    (e.path == .cut && (e.downstream == .taken || e.downstream == .presented))

/-- The answers of an abandonment, key by key in an order no rule fixes, each key's in take order (R29; log entry 8). -/
def abandonedAnswers (k : Nat) (table : List Entry) : List Response :=
  let keys := (table.map (·.key)).eraseDups
  (freeOrder keys.length k keys).flatMap fun key =>
    (table.filter fun e => e.key == key).filterMap Entry.abandonedAnswer

/-- The abandoned counts after an abandonment (R29). -/
def abandonedCounts (table : List Entry) (l : List AbandonedCount) : List AbandonedCount :=
  (table.filter Entry.responseDue).foldl (fun l e => addAbandoned l e.key) l

/-- The transit unit abandons every entry (R29). A request presented on the D-port stays presented. -/
def State.abandonTable (s : State) : State :=
  ({ s with
      outputs := { s.outputs with upstream := s.outputs.upstream ++ abandonedAnswers s.freeIndex s.transit.table },
      transit := { s.transit with abandoned := abandonedCounts s.transit.table s.transit.abandoned, table := [],
                                  forwardQueue := [] } }).spendChoices s.transit.table.length

end Sys2Proof.Machine
end

