-- ==== Sys2Proof/Machine/Clock.lean ====
section
/-! DEFINITION. The time base (Chapter 7): the phase of a pulse, slips, realignment, ONCE, the loss watch, the snapshot. -/

namespace Sys2Proof.Machine

/-- The phase of an aligned time against a sync period, in (−SP/2, SP/2] (R139). -/
def phaseOf (t : Time) (period : Nat) : Int :=
  let r := t.toNat % period
  if 2 * r ≤ period then (r : Int) else (r : Int) - (period : Int)

/-- The sync period SP of the ACTIVE set. -/
def State.syncPeriod (s : State) : Nat := s.config.active.period.toNat

/-- Pulses are tested for slips and the loss watch runs: MONITOR or EVERY (R137). -/
def State.syncWatched (s : State) : Bool :=
  s.config.active.syncMode? == some .monitor || s.config.active.syncMode? == some .every

/-- Measurement and recording of a pulse with phase `d` (R138). -/
def State.recordPulse (s : State) (d : Int) : State :=
  ({ s with clock := { s.clock with lastPulse := some s.clock.raw, lastPhase := some d } }).count .syncPulses

/-- A slip (R140). -/
def State.slip (s : State) : State :=
  ((s.raise .syncSlip).count .syncSlips).observe (markBody .slip none) none

/-- A realignment by phase `d` (R141): offset and epoch as one change, the store told, MARK(EPOCH) asked for. -/
def State.realign (s : State) (d : Int) : State :=
  ({ s with clock := { s.clock with offset := s.clock.offset - BitVec.ofInt 48 d,
                                    epoch := s.clock.epoch + 1 } }).tellEpochChange.observe
    (markBody .epoch none) none

/-- ONCE clears, and the loss watch runs from this pulse under MONITOR or EVERY (R143, R144). -/
def State.endPulse (s : State) : State :=
  { s with clock := { s.clock with once := false, lossWatch := if s.syncWatched then .watching else .idle } }

/-- A pulse, handled as one event in the order of R142. -/
def State.pulse (s : State) : State :=
  let d := phaseOf s.aligned s.syncPeriod
  let slips := s.syncWatched && s.config.active.jitter.toNat < d.natAbs
  let realigns := d != 0 && (s.config.active.syncMode? == some .every || s.clock.once)
  let s := s.recordPulse d
  let s := if slips then s.slip else s
  let s := if realigns then s.realign d else s
  s.endPulse

/-- The loss watch expires: WATCHING, and 2 × SP raw ticks since the last pulse time (R144). -/
def State.lossDue (s : State) : Bool :=
  match s.clock.lossWatch, s.clock.lastPulse with
  | .watching, some t => 2 * s.syncPeriod ≤ s.elapsed t
  | _, _ => false

/-- The expiry of the loss watch (R144). -/
def State.loseSync (s : State) : State :=
  (({ s with clock := { s.clock with lossWatch := .lost } }).raise .syncLost).observe (markBody .syncLost none) none

/-- The snapshot of R146: raw counter, aligned time, offset and epoch at one moment. -/
def State.takeSnapshot (s : State) : State :=
  { s with clock := { s.clock with
      snapshot := { raw := s.clock.raw, aligned := s.aligned, offset := s.clock.offset, epoch := s.clock.epoch } } }

end Sys2Proof.Machine
end

