-- ==== Sys2Proof/Machine/Configure.lean ====
section
/-! DEFINITION. The APPLY command (R152–R154) and the resets of the whole part (8.5, R30, R163, R164, R183). -/

namespace Sys2Proof.Machine

/-! ## Apply -/

/-- APPLY while no apply is pending (R152–R154): the first failed check refuses it; otherwise it becomes pending, and
takes effect at once where nothing stands against it. -/
def State.requestApply (s : State) : State × Result :=
  match s.config.staged.firstFailed with
  | some n => ({ s with config := { s.config with refusalCause := some n } }, .refused)
  | none =>
    let t := { s with config := { s.config with refusalCause := none, applyPending := true } }
    (if t.applyDue then t.takeEffect else t, .done)

/-- APPLY (R152, R153): while one is pending, a further one is not checked and has no effect. -/
def State.applyCommand (s : State) : State × Result :=
  if s.config.applyPending then (s, .done) else s.requestApply

/-! ## Resets -/

/-- POR/RSTN (R30, R46, R58, R84, R108, R132, R147, R149, R179): every block at its power-on values and the part held.
A request the interconnect presents stays presented (R1; log entry 6). -/
def State.powerOn (s : State) : State :=
  { State.reset with
    pending := s.pending, held := true, transit := { TransitUnit.reset with upstream := s.transit.upstream },
    freeIndex := s.freeIndex }

/-- The transit unit at the end of a FULL_RESET (R30). -/
def TransitUnit.fullReset (t : TransitUnit) : TransitUnit :=
  { t with table := [], forwardQueue := [], runCount := 0, holdTimer := none, holdExpired := false,
           quiesceTimer := none }

/-- The time base at the end of a FULL_RESET (R147). -/
def TimeBase.fullReset (c : TimeBase) : TimeBase :=
  { TimeBase.reset with raw := c.raw, lineSeenLow := c.lineSeenLow }

/-- The FULL_RESET takes effect on every block at one event (R163). -/
def State.fullResetEffect (s : State) (abandoned : Bool) : State :=
  let t := { s with
    config := { ConfigBlock.reset with result := s.config.result },
    transit := s.transit.fullReset,
    observer := ObservationUnit.reset,
    watchStats := List.replicate 16 WatchStat.cleared,
    trigger := { TriggerUnit.reset with lineSeenLow := s.trigger.lineSeenLow },
    store := RecordStore.reset,
    spill := s.spill.fullReset,
    clock := s.clock.fullReset,
    conditions := ConditionBlock.reset }
  if abandoned then t.raise .quiesceAbandoned else t

/-- FULL_RESET at its command (R163, R156, R28): a pending apply is cancelled and the quiesce starts; with an empty table
it completes at once. -/
def State.startQuiesce (s : State) : State :=
  let t := { s with config := { s.config with applyPending := false },
                    transit := { s.transit with quiesceTimer := some 0 } }
  if t.transit.table = [] then t.fullResetEffect false else t

/-- The table is empty during a quiesce (R28). -/
def State.quiesceDone (s : State) : Bool := s.quiescing && s.transit.table.isEmpty

/-- The quiesce limit is reached with entries still in the table (R29). -/
def State.abandonDue (s : State) : Bool := s.quiesceLimitReached && !s.transit.table.isEmpty

/-- CAPTURE_RESET (R164): ring, store and directory emptied, DISARMED, TRIGOUT low, the engine as R131, HOLD follows. -/
def State.captureReset (s : State) : State :=
  let t := { s with
    observer := { s.observer with ring := [] },
    store := { RecordStore.reset with nextNumber := s.store.nextNumber },
    trigger := { s.trigger with state := .disarmed, trigout := none } }
  t.spillCaptureReset.followHold

/-- The reset ends (R183): the part starts from the state POR/RSTN gives. -/
def State.endReset (s : State) : State := { s with held := false }

end Sys2Proof.Machine
end

