-- ==== Sys2Proof/Machine/Port.lean ====
section
/-! DEFINITION. The management port (8.3–8.6, 11.3, 11.5): how a frame is judged and answered, and the status words. -/

namespace Sys2Proof.Machine

/-! ## Frames (R157, R158) -/

/-- The result byte (11.3). -/
def Result.byte : Result → Byte
  | .done => 0x00
  | .refused => 0x01
  | .badIndex => 0x02
  | .busy => 0x03
  | .locked => 0x04

/-- A frame ends: its MDO bytes were the result register, two zero bytes and the data, zero after them; the result of
this frame becomes the result register (R157). -/
def State.answer (s : State) (f : Frame) (data : List Byte) (r : Result) : State :=
  { s with outputs := { s.outputs with mdo := fitBytes f.bytes (s.config.result.byte :: 0 :: 0 :: data) },
           config := { s.config with result := r } }

/-- The frame is judged BUSY (R158): a quiesce was in progress when it began. -/
def State.judgesBusy (s : State) (f : Frame) : Bool := f.beganInQuiesce || s.quiescing

/-- A frame with no complete command byte has no effect and leaves the result register (R158). -/
def State.emptyFrame (s : State) : State := { s with outputs := { s.outputs with mdo := [] } }

/-- A command that takes effect at the end of its frame (R157, R158): BUSY in a quiesce, REFUSED when the frame is shorter
than it needs, else its effect and its result. -/
def State.frame (s : State) (f : Frame) (need : Nat) (act : State → State × Result) : State :=
  if f.bytes = 0 then s.emptyFrame
  else if s.judgesBusy f then s.answer f [] .busy
  else if f.bytes < need then s.answer f [] .refused
  else (act s).1.answer f [] (act s).2

/-- A command that always gives DONE. -/
def State.doneFrame (s : State) (f : Frame) (need : Nat) (act : State → State) : State :=
  s.frame f need fun s => (act s, .done)

/-- Bytes of the least frame of a read command, WRITE_STAGED and the mask commands (R158). -/
def wordFrameBytes : Nat := 7

/-- The result of a word read (R158, R160, R161). -/
def readResult (f : Frame) (w : Option Word) : Result :=
  if f.bytes < wordFrameBytes then .refused else if w.isSome then .done else .badIndex

/-- A read command's frame once it is not BUSY: the word read, zero bytes where the index names none (R157, R160). -/
def State.answerWord (s : State) (f : Frame) (w : Option Word) : State :=
  s.answer f (dataBytes (w.getD 0)) (readResult f w)

/-- READ_ACTIVE and READ_STAGED (R160). -/
def State.readFrame (s : State) (f : Frame) (w : Option Word) : State :=
  if f.bytes = 0 then s.emptyFrame
  else if s.judgesBusy f then s.answer f [] .busy
  else s.answerWord f w

/-! ## Status words (11.5) -/

/-- A status word as far as the manual gives it: the value, and the mask of the bits that have one. A bit outside the mask
belongs to no field, or to the field of an absent item (00_scope: an absent field is never read as zero; log entry
10). -/
structure StatusWord where
  value : Word
  known : Word
  deriving DecidableEq, Repr

/-- A field of a status word: its place, width and value. -/
def statusField (lo width value : Nat) : StatusWord :=
  ⟨BitVec.ofNat 32 (value % 2 ^ width) <<< lo, BitVec.ofNat 32 (2 ^ width - 1) <<< lo⟩

/-- A flag of a status word. -/
def statusFlag (lo : Nat) (b : Bool) : StatusWord := statusField lo 1 b.toNat

/-- The field of an item that may be absent: no bit has a value then. -/
def statusOption (lo width : Nat) (v : Option Nat) : StatusWord :=
  match v with
  | some n => statusField lo width n
  | none => ⟨0, 0⟩

/-- Several fields in one status word. -/
def joinFields (fs : List StatusWord) : StatusWord :=
  fs.foldl (fun a b => ⟨a.value ||| b.value, a.known ||| b.known⟩) ⟨0, 0⟩

/-- A status word that is one 32-bit value. -/
def wholeWord (w : Word) : StatusWord := ⟨w, BitVec.allOnes 32⟩

/-- The low word of a 48-bit status value (11.5). -/
def timeLow (t : Time) : StatusWord := wholeWord (t.extractLsb' 0 32)

/-- The high word of a 48-bit status value: bits 32–47 in bits 0–15 (11.5). -/
def timeHigh (t : Time) : StatusWord := statusField 0 16 (t.extractLsb' 32 16).toNat

/-- Code of the trigger state (11.5). -/
def TriggerState.code : TriggerState → Nat
  | .disarmed => 0
  | .armed _ => 1
  | .capturing => 2

/-- Code of the engine state, in the order of R112 (11.5). -/
def EngineState.code : EngineState → Nat
  | .off => 0
  | .init => 1
  | .idle => 2
  | .waitSpace => 3
  | .writing => 4
  | .publish => 5
  | .fault _ => 6

/-- Code of the fault cause (11.5). -/
def FaultCause.code : FaultCause → Nat
  | .writeFault => 0
  | .publishFault => 1
  | .initFault => 2
  | .oversize => 3

/-- The fault cause, present exactly in FAULT (R112). -/
def EngineState.cause : EngineState → Option FaultCause
  | .fault c => some c
  | .off | .init | .idle | .waitSpace | .writing | .publish => none

/-- Code of the loss watch state (11.5). -/
def LossWatch.code : LossWatch → Nat
  | .idle => 0
  | .watching => 1
  | .lost => 2

/-- The current stage when ARMED (R60). -/
def State.currentStage (s : State) : Option Nat :=
  match s.trigger.state with
  | .armed a => some a.stage
  | .disarmed | .capturing => none

/-- The number of hits the current window holds when ARMED at a HITS stage (R60). At a LINE or SLIP stage there is no window
(R64, R65), and the count is an absent item (log entry 10). -/
def State.windowHits (s : State) : Option Nat :=
  match s.trigger.state with
  | .armed a =>
    let d := s.config.active.stage a.stage
    if d.condition? = some .hits then some (a.hitCount d) else none
  | .disarmed | .capturing => none

/-- Spill tags of one kind as a mask, tag n at bit n: so tag n is in use at bit 8 + n and lost at bit 12 + n of status word
0x460. The manual gives the two bit ranges alone (11.5); the order within each is the model's reading (log entry 13). -/
def tagMask (tags : List TagState) (p : TagState → Bool) : Nat :=
  tags.zipIdx.foldl (fun m t => if p t.1 then m + 2 ^ t.2 else m) 0

/-- A tag in use (R112). -/
def TagState.isInUse : TagState → Bool
  | .inUse _ => true
  | .free | .lost => false

/-- The word of watch statistic offset `off` of an entry (R59, 11.5). An absent statistic's value word reads as zero. -/
def WatchStat.word (w : WatchStat) (off : Nat) : StatusWord :=
  if off = 0 then wholeWord w.hits
  else if off = 1 then wholeWord (w.lastSequence.getD 0)
  else if off = 2 then
    match w.maxLatency with
    | some l => statusField 0 24 l
    | none => wholeWord 0
  else joinFields [statusFlag 0 w.lastSequence.isSome, statusFlag 1 w.maxLatency.isSome]

/-- The status word at an index, none where 11.5 assigns the index to no word (R161, R165). -/
def State.statusWord (s : State) (i : Nat) : Option StatusWord :=
  if i = 0x400 then
    some (joinFields [statusField 0 16 s.config.generation.toNat, statusFlag 16 s.config.applyPending,
      statusFlag 17 s.quiescing])
  else if i = 0x401 then
    some (joinFields [statusOption 0 4 s.config.refusalCause, statusFlag 8 s.config.refusalCause.isSome])
  else if i = 0x402 then
    some (joinFields [statusField 0 6 s.transit.table.length, statusFlag 8 s.transit.holdExpired])
  else if i = 0x403 then some (statusOption 0 24 s.transit.holdTimer)
  else if i = 0x410 then some ⟨s.conditionWord, conditionMask⟩
  else if i = 0x411 then some ⟨s.conditions.alertEnable, conditionMask⟩
  else if 0x420 ≤ i ∧ i ≤ 0x439 then s.conditions.counters[i - 0x420]?.map wholeWord
  else if i = 0x440 then
    some (joinFields [statusField 0 2 s.trigger.state.code, statusOption 4 2 s.currentStage,
      statusOption 8 7 s.windowHits])
  else if i = 0x441 then
    some (joinFields [statusField 0 15 s.freeCells, statusField 16 9 s.store.directory.length])
  else if i = 0x442 then some (statusOption 0 32 (s.store.directory.head?.map (·.number.toNat)))
  else if i = 0x443 then
    some (joinFields [statusOption 0 13 (s.store.directory.head?.map (·.cells.length)),
      statusOption 16 1 (s.store.directory.head?.map fun e => (e.state == .spilling).toNat),
      statusFlag 24 s.store.directory.head?.isSome])
  else if i = 0x444 then some (wholeWord s.store.nextNumber)
  else if i = 0x445 then
    some (joinFields [statusOption 0 11 (s.store.openRecord.map (·.observations.length)),
      statusOption 12 8 (s.store.openRecord.map (·.nested)), statusFlag 24 s.store.openRecord.isSome])
  else if i = 0x446 then some (statusOption 0 32 (s.store.openRecord.map (·.number.toNat)))
  else if i = 0x460 then
    some (joinFields [statusField 0 3 s.spill.engine.code,
      statusOption 4 2 (s.spill.engine.cause.map FaultCause.code), statusFlag 6 s.spill.engine.cause.isSome,
      statusField 8 4 (tagMask s.spill.tags TagState.isInUse), statusField 12 4 (tagMask s.spill.tags (· == .lost))])
  else if i = 0x461 then some (statusField 0 32 s.spill.producer)
  else if i = 0x462 then some (wholeWord s.spill.wrapCount)
  else if i = 0x463 then some (statusField 0 32 s.spill.consumer)
  else if i = 0x470 then some (timeLow s.clock.snapshot.raw)
  else if i = 0x471 then some (timeHigh s.clock.snapshot.raw)
  else if i = 0x472 then some (timeLow s.clock.snapshot.aligned)
  else if i = 0x473 then some (timeHigh s.clock.snapshot.aligned)
  else if i = 0x474 then some (timeLow s.clock.snapshot.offset)
  else if i = 0x475 then some (timeHigh s.clock.snapshot.offset)
  else if i = 0x476 then
    some (joinFields [statusField 0 16 s.clock.snapshot.epoch.toNat, statusField 16 2 s.config.active.syncMode.toNat,
      statusFlag 20 s.clock.once, statusField 24 2 s.clock.lossWatch.code])
  else if i = 0x477 then some (statusOption 0 32 (s.clock.lastPulse.map fun t => (t.extractLsb' 0 32).toNat))
  else if i = 0x478 then
    some (joinFields [statusOption 0 16 (s.clock.lastPulse.map fun t => (t.extractLsb' 32 16).toNat),
      statusFlag 31 s.clock.lastPulse.isSome])
  else if i = 0x479 then some (statusOption 0 32 (s.clock.lastPhase.map fun d => (BitVec.ofInt 32 d).toNat))
  else if 0x480 ≤ i ∧ i ≤ 0x4BF then s.watchStats[(i - 0x480) / 4]?.map fun w => w.word ((i - 0x480) % 4)
  else none

/-- What a read of a status word sends: the bits the manual gives, and free bits elsewhere (log entry 10). -/
def StatusWord.sent (w : StatusWord) (i k : Nat) : Word :=
  if w.known = BitVec.allOnes 32 then w.value
  else (w.value &&& w.known) ||| (Config.statusBits i k &&& ~~~w.known)

/-- The word a READ_STATUS of an index sends (R161). -/
def State.readStatusWord (s : State) (i : Nat) : Option Word :=
  (s.statusWord i).map fun w => w.sent i s.freeIndex

/-- The frame's word index is complete, at the end of byte 2 (R157). -/
def indexComplete (f : Frame) : Bool := 3 ≤ f.bytes

/-- The one status word that is read during a quiesce (R158). -/
def quiesceStatusIndex : BitVec 16 := 0x400

/-- READ_STATUS of an index (R158, R161, R146): word 0x400 is not judged BUSY, and a read of the low word of raw time
takes the snapshot first. -/
def State.statusFrame (s : State) (f : Frame) (i : BitVec 16) : State :=
  if f.bytes = 0 then s.emptyFrame
  else if s.judgesBusy f && !(indexComplete f && i == quiesceStatusIndex) then s.answer f [] .busy
  else
    let s := if indexComplete f && i == rawTimeIndex then s.takeSnapshot else s
    (s.spendChoices 1).answerWord f (s.readStatusWord i.toNat)

/-! ## Commands of the port -/

/-- WRITE_STAGED (R151, R153, R160). -/
def State.writeStagedWord (s : State) (i : BitVec 16) (w : Word) : State × Result :=
  match s.config.staged.writeWord i.toNat w with
  | none => (s, .badIndex)
  | some p =>
    if s.config.applyPending then (s, .locked)
    else ({ s with config := { s.config with staged := p } }, .done)

/-- ALIGN_ONCE (R143). -/
def State.armOnce (s : State) : State := { s with clock := { s.clock with once := true } }

/-- ACK_CONDITIONS (R174): the sticky conditions of the mask clear; other bits of the mask are ignored (R162). -/
def State.ackSticky (s : State) (mask : Word) : State :=
  { s with conditions := { s.conditions with sticky := s.conditions.sticky &&& ~~~(mask &&& stickyMask) } }

/-- WRITE_ALERT_ENABLE (R175). -/
def State.setAlertEnable (s : State) (mask : Word) : State :=
  { s with conditions := { s.conditions with alertEnable := mask } }

/-- The ACTIVE drain route is PORT. -/
def State.routeIsPort (s : State) : Bool := s.config.active.drainRoute? == some .port

/-- The bytes of a READ_RECORD stream: the cells from the offset, each byte 0 first (R105, R181). -/
def streamBytes (cells : List Cell) (offset : Nat) : List Byte := (cells.drop offset).flatMap cellBytes

/-- READ_RECORD's stream and result (R105). When the record left the directory during the frame, the cells not sent by
then are zero and the result is REFUSED. Two points are the model's choice (log entry 12): the stream turns to zero at a cell
boundary only, since leftAfter counts whole cells, though the record may leave while a cell is part sent; and the result is
REFUSED at an offset at or above the length too, where the table of R105 has BAD_INDEX. -/
def State.recordStream (s : State) (offset : Nat) (leftAfter : Option Nat) : List Byte × Result :=
  match s.store.directory with
  | [] => ([], .refused)
  | h :: _ =>
    if s.routeIsPort then
      match leftAfter with
      | some k => (streamBytes (h.cells.take (offset + k)) offset, .refused)
      | none => if offset < h.cells.length then (streamBytes h.cells offset, .done) else ([], .badIndex)
    else ([], .refused)

/-- READ_RECORD (R105, R158): a frame of at least 3 bytes. -/
def State.recordFrame (s : State) (f : Frame) (offset : BitVec 16) (leftAfter : Option Nat) : State :=
  if f.bytes = 0 then s.emptyFrame
  else if s.judgesBusy f then s.answer f [] .busy
  else if f.bytes < 3 then s.answer f [] .refused
  else
    let r := s.recordStream offset.toNat leftAfter
    s.answer f r.1 r.2

/-- DISCARD_HEAD (R106). -/
def State.discardHead (s : State) : State × Result :=
  if s.routeIsPort && !s.store.directory.isEmpty then ((s.removeHead).count .discarded, .done) else (s, .refused)

end Sys2Proof.Machine
end

