-- ==== Sys2Proof/Machine/Internal.lean ====
section
/-! DEFINITION. How one command or event meets the part (R39, R154, R183), the tick (R135), and which events are due of
themselves (log entries 1–4, 8). -/

namespace Sys2Proof.Machine

/-- One event of the part. While the part is held in reset nothing has an effect (R183; log entry 6); else a due apply is
taken first, and then the event, whole. Where one event removed the last obstacle both of a waiting request (R3) and of a
pending apply (R154), the apply is taken before the TAKE, which then meets the new set: the model's choice (log entry 31). -/
def onEvent (s : State) (event : State → State) : Host.Outcome State Fault Refusal :=
  if s.held then .next s else .next (event s.beginEvent.takeDueApply)

/-- An event that the part takes of itself where its condition holds, and that is nothing elsewhere (log entry 2). -/
def State.whenDue (s : State) (due : Bool) (event : State → State) : State :=
  if due then event s else s

/-! ## Rising edges -/

/-- A rise of TRIGIN: an edge that is seen acts at the trigger unit (R80). -/
def State.triginRise (s : State) (l : LineRise) : State :=
  let seen := riseSeen l s.trigger.lineSeenLow s.freeIndex
  let t := s.spendChoices (riseIsFree l s.trigger.lineSeenLow).toNat
  let t := { t with trigger := { t.trigger with lineSeenLow := t.trigger.lineSeenLow || l.lowTick } }
  if seen then t.triginEdgeSeen else t

/-- A rise of SYNCIN: an edge that is seen is a pulse (R138). -/
def State.syncinRise (s : State) (l : LineRise) : State :=
  let seen := riseSeen l s.clock.lineSeenLow s.freeIndex
  let t := s.spendChoices (riseIsFree l s.clock.lineSeenLow).toNat
  let t := { t with clock := { t.clock with lineSeenLow := t.clock.lineSeenLow || l.lowTick } }
  if seen then t.pulse else t

/-! ## Timed events -/

/-- The current stage times out (R67). -/
def State.timeOutStage (s : State) : State := (s.enterStage 0).count .stageTimeouts

/-- Eight ticks have passed since the last accepted fire (R81). -/
def State.trigoutEnds (s : State) : Bool :=
  match s.trigger.trigout with
  | some t => Config.trigoutTicks ≤ t
  | none => false

/-- The TRIGOUT line goes low (R81). -/
def State.endTrigout (s : State) : State := { s with trigger := { s.trigger with trigout := none } }

/-- The entry at a place of a key's list expires, where its deadline is reached (R22). -/
def State.expireAt (s : State) (k : Key) (age : Nat) : State :=
  match s.entryAt k age with
  | some e => s.whenDue (s.expiryDue e) fun t => t.expireEntry e
  | none => s

/-- The presented request is taken, where no obstacle of R3 is left (R3, R4). -/
def State.takePresented (s : State) : State :=
  match s.transit.upstream with
  | some r => s.whenDue s.canTake fun t => t.takeRequest r
  | none => s

/-! ## The tick (R135) -/

/-- The stage timer advances while a timed stage is current (R62). -/
def TriggerState.tick : TriggerState → TriggerState
  | .armed a => .armed { a with timer := a.timer.map (· + 1) }
  | .disarmed => .disarmed
  | .capturing => .capturing

/-- One tick of REFCLK: the raw counter advances, and with it every timer that runs (R26, R28, R62, R81, R135). -/
def State.tick (s : State) : State :=
  let s := s.beginEvent
  { s with
    clock := { s.clock with raw := s.clock.raw + 1 },
    transit := { s.transit with holdTimer := s.transit.holdTimer.map (· + 1),
                                quiesceTimer := s.transit.quiesceTimer.map (· + 1) },
    trigger := { s.trigger with state := s.trigger.state.tick, trigout := s.trigger.trigout.map (· + 1) } }

/-! ## What is due of itself -/

/-- An event in the list of those due. -/
def dueIf (due : Bool) (i : Instr) : List Instr := if due then [i] else []

/-- The expiries that are due, each by its key and its place in the key's list (R22). -/
def State.dueExpiries (s : State) : List Instr :=
  (s.transit.table.zipIdx.filter fun p => s.expiryDue p.1).map fun p =>
    .overdueExpiry p.1.key.initiator p.1.key.tag
      ((s.transit.table.take p.2).countP fun e => e.key == p.1.key)

/-- The channel is free and a claimant waits (R11). -/
def State.grantDue (s : State) : Bool :=
  s.transit.dPort.isNone && (!s.transit.forwardQueue.isEmpty || s.spillClaim.isSome)

/-- The events that the part takes of itself and that are due, a due apply apart. -/
def State.dueEvents (s : State) : List Instr :=
  dueIf s.quiesceDone .quiesceComplete ++ dueIf s.abandonDue .quiesceAbandon ++ dueIf s.canTake .take ++
    dueIf s.grantDue .grant ++ dueIf s.holdLimitReached .holdExpiry ++ s.dueExpiries ++
    dueIf s.stageTimedOut .stageTimeout ++ dueIf s.trigoutEnds .trigoutPulseEnd ++ dueIf s.lossDue .lossWatchExpiry

/-- The next event the part takes of itself: a due apply, else one of those due, in an order no rule fixes (R39, R154;
log entry 8). A due apply comes before a due TAKE too, whatever event made both due: the model's choice (log entry 31). -/
def State.nextDue (s : State) : Option Instr :=
  if s.applyDue then some .applyTakesEffect else freePick s.freeIndex s.dueEvents

/-- The state once the next due event is chosen: a choice among several is a new one each time. -/
def State.dueChosen (s : State) : State :=
  s.spendChoices (if s.applyDue || s.dueEvents.length ≤ 1 then 0 else 1)

end Sys2Proof.Machine
end

