-- ==== Sys2Proof/Machine/EventCommands.lean ====
section
/-! DEFINITION. The meanings of the line edges and the timed events (Chapters 4 and 7), and of an apply's effect (R155). -/

namespace Sys2Proof.Machine

/-- STAGE_TIMEOUT (R67). -/
def execStageTimeout (s : State) : Host.Outcome State Fault Refusal :=
  onEvent s fun s => s.whenDue s.stageTimedOut State.timeOutStage

/-- TRIGIN_EDGE (R80). -/
def execTriginEdge (l : LineRise) (s : State) : Host.Outcome State Fault Refusal :=
  onEvent s fun s => s.triginRise l

/-- TRIGOUT_PULSE_END (R81). -/
def execTrigoutPulseEnd (s : State) : Host.Outcome State Fault Refusal :=
  onEvent s fun s => s.whenDue s.trigoutEnds State.endTrigout

/-- APPLY_TAKES_EFFECT (R154, R155): nothing while no apply is pending or an obstacle is left. -/
def execApplyTakesEffect (s : State) : Host.Outcome State Fault Refusal :=
  onEvent s State.takeDueApply

/-- SYNC_PULSE (R138, R142). -/
def execSyncPulse (l : LineRise) (s : State) : Host.Outcome State Fault Refusal :=
  onEvent s fun s => s.syncinRise l

/-- LOSS_WATCH_EXPIRY (R144). -/
def execLossWatchExpiry (s : State) : Host.Outcome State Fault Refusal :=
  onEvent s fun s => s.whenDue s.lossDue State.loseSync

end Sys2Proof.Machine
end

