-- ==== Sys2Proof/Machine/PortCommands.lean ====
section
/-! DEFINITION. The meanings of the commands of the management port (8.3–8.6), but for the two resets. -/

namespace Sys2Proof.Machine

/-- READ_ACTIVE (R160). -/
def execReadActive (f : Frame) (index : BitVec 16) (s : State) : Host.Outcome State Fault Refusal :=
  onEvent s fun s => s.readFrame f (s.config.active.readWord index.toNat)

/-- READ_STAGED (R160). -/
def execReadStaged (f : Frame) (index : BitVec 16) (s : State) : Host.Outcome State Fault Refusal :=
  onEvent s fun s => s.readFrame f (s.config.staged.readWord index.toNat)

/-- WRITE_STAGED (R151, R153, R160). -/
def execWriteStaged (f : Frame) (index : BitVec 16) (data : Word) (s : State) : Host.Outcome State Fault Refusal :=
  onEvent s fun s => s.frame f wordFrameBytes fun s => s.writeStagedWord index data

/-- READ_STATUS (R161). -/
def execReadStatus (f : Frame) (index : BitVec 16) (s : State) : Host.Outcome State Fault Refusal :=
  onEvent s fun s => s.statusFrame f index

/-- RAW_TIME_SNAPSHOT (R146): READ_STATUS of the low word of raw time. -/
def execRawTimeSnapshot (f : Frame) (s : State) : Host.Outcome State Fault Refusal :=
  onEvent s fun s => s.statusFrame f rawTimeIndex

/-- APPLY (R152–R154). -/
def execApply (f : Frame) (s : State) : Host.Outcome State Fault Refusal :=
  onEvent s fun s => s.frame f 1 State.applyCommand

/-- ARM (R77). -/
def execArm (f : Frame) (s : State) : Host.Outcome State Fault Refusal :=
  onEvent s fun s => s.frame f 1 State.armUnit

/-- DISARM (R78). -/
def execDisarm (f : Frame) (s : State) : Host.Outcome State Fault Refusal :=
  onEvent s fun s => s.doneFrame f 1 State.disarmUnit

/-- FORCE (R79). -/
def execForce (f : Frame) (s : State) : Host.Outcome State Fault Refusal :=
  onEvent s fun s => s.frame f 1 fun s => s.forceUnit .forcePort

/-- ALIGN_ONCE (R143). -/
def execAlignOnce (f : Frame) (s : State) : Host.Outcome State Fault Refusal :=
  onEvent s fun s => s.doneFrame f 1 State.armOnce

/-- CLEAR_COUNTERS (R178). -/
def execClearCounters (f : Frame) (s : State) : Host.Outcome State Fault Refusal :=
  onEvent s fun s => s.doneFrame f 1 State.clearCounters

/-- ACK_CONDITIONS (R174). -/
def execAckConditions (f : Frame) (mask : Word) (s : State) : Host.Outcome State Fault Refusal :=
  onEvent s fun s => s.doneFrame f wordFrameBytes fun s => s.ackSticky mask

/-- WRITE_ALERT_ENABLE (R175). -/
def execWriteAlertEnable (f : Frame) (mask : Word) (s : State) : Host.Outcome State Fault Refusal :=
  onEvent s fun s => s.doneFrame f wordFrameBytes fun s => s.setAlertEnable mask

/-- READ_RECORD (R105). -/
def execReadRecord (f : Frame) (offset : BitVec 16) (leftAfter : Option Nat) (s : State) :
    Host.Outcome State Fault Refusal :=
  onEvent s fun s => s.recordFrame f offset leftAfter

/-- DISCARD_HEAD (R106). -/
def execDiscardHead (f : Frame) (s : State) : Host.Outcome State Fault Refusal :=
  onEvent s fun s => s.frame f 1 State.discardHead

/-- SPILL_RESUME (R124). -/
def execSpillResume (f : Frame) (s : State) : Host.Outcome State Fault Refusal :=
  onEvent s fun s => s.frame f 1 State.spillResume

/-- SPILL_SKIP (R125). -/
def execSpillSkip (f : Frame) (s : State) : Host.Outcome State Fault Refusal :=
  onEvent s fun s => s.frame f 1 State.spillSkip

/-- UNKNOWN_COMMAND_BYTE (R158): no effect, REFUSED. -/
def execUnknownCommandByte (f : Frame) (_byte : Byte) (s : State) : Host.Outcome State Fault Refusal :=
  onEvent s fun s => s.frame f 1 fun s => (s, .refused)

end Sys2Proof.Machine
end

