-- ==== Sys2Proof/Machine/ResetCommands.lean ====
section
/-! DEFINITION. The meanings of the resets and of the ends of a quiesce (R28–R30, R163, R164, R183). -/

namespace Sys2Proof.Machine

/-- FULL_RESET (R28, R156, R163): the quiesce starts at the end of the frame. -/
def execFullReset (f : Frame) (s : State) : Host.Outcome State Fault Refusal :=
  onEvent s fun s => s.doneFrame f 1 State.startQuiesce

/-- QUIESCE_COMPLETE (R28): the table is empty during a quiesce, and the FULL_RESET takes effect. -/
def execQuiesceComplete (s : State) : Host.Outcome State Fault Refusal :=
  onEvent s fun s => s.whenDue s.quiesceDone fun t => t.fullResetEffect false

/-- QUIESCE_ABANDON (R29): at the quiesce limit the entries are abandoned and the FULL_RESET takes effect. -/
def execQuiesceAbandon (s : State) : Host.Outcome State Fault Refusal :=
  onEvent s fun s => s.whenDue s.abandonDue fun t => t.abandonTable.fullResetEffect true

/-- POR_RSTN (R30, R183): in any state. -/
def execPorRstn (s : State) : Host.Outcome State Fault Refusal := .next s.powerOn

/-- CAPTURE_RESET (R164). -/
def execCaptureReset (f : Frame) (s : State) : Host.Outcome State Fault Refusal :=
  onEvent s fun s => s.doneFrame f 1 State.captureReset

/-- RESET_END (R183): nothing while the part is not held. -/
def execResetEnd (s : State) : Host.Outcome State Fault Refusal :=
  .next (s.whenDue s.held State.endReset)

end Sys2Proof.Machine
end

