-- ==== Sys2Proof/Machine/TransitCommands.lean ====
section
/-! DEFINITION. The meanings of the commands and events of the transit unit (Chapter 1). -/

namespace Sys2Proof.Machine

/-- REQUEST_PRESENTED (R3). A request may be presented while the part is held in reset; it is not taken then (R183; log
entry 6). -/
def execRequestPresented (r : Request) (s : State) : Host.Outcome State Fault Refusal :=
  if s.held then .next (s.presentRequest r) else onEvent s fun s => s.presentRequest r

/-- TAKE (R4): nothing while an obstacle of R3 remains or no request is presented. -/
def execTake (s : State) : Host.Outcome State Fault Refusal :=
  onEvent s State.takePresented

/-- HOLD_EXPIRY (R27). -/
def execHoldExpiry (s : State) : Host.Outcome State Fault Refusal :=
  onEvent s fun s => s.whenDue s.holdLimitReached State.expireHold

/-- GRANT (R11, R12): nothing while the channel is not free or no one claims. -/
def execGrant (s : State) : Host.Outcome State Fault Refusal :=
  onEvent s State.arbitrate

/-- D_PORT_TAKE (R12): nothing while no request is presented on the D-port. -/
def execDPortTake (s : State) : Host.Outcome State Fault Refusal :=
  onEvent s State.takeDownstream

/-- D_PORT_RESPONSE (R13–R17, R21, R119). -/
def execDPortResponse (r : Response) (s : State) : Host.Outcome State Fault Refusal :=
  onEvent s fun s => s.takeResponse r

/-- OVERDUE_EXPIRY (R22–R25), of the entry at a place of a key's list. -/
def execOverdueExpiry (initiator : Initiator) (tag : Tag) (age : Nat) (s : State) : Host.Outcome State Fault Refusal :=
  onEvent s fun s => s.expireAt ⟨initiator, tag⟩ age

end Sys2Proof.Machine
end

