-- ==== Sys2Proof/Machine/Dispatch.lean ====
section
/-! DEFINITION. The one match that sends each command or event to its meaning. -/

namespace Sys2Proof.Machine

def exec (i : Instr) (s : State) : Host.Outcome State Fault Refusal :=
  match i with
  | .requestPresented r => Sys2Proof.Machine.execRequestPresented r s
  | .take => Sys2Proof.Machine.execTake s
  | .holdExpiry => Sys2Proof.Machine.execHoldExpiry s
  | .grant => Sys2Proof.Machine.execGrant s
  | .dPortTake => Sys2Proof.Machine.execDPortTake s
  | .dPortResponse r => Sys2Proof.Machine.execDPortResponse r s
  | .overdueExpiry initiator tag age => Sys2Proof.Machine.execOverdueExpiry initiator tag age s
  | .fullReset f => Sys2Proof.Machine.execFullReset f s
  | .quiesceComplete => Sys2Proof.Machine.execQuiesceComplete s
  | .quiesceAbandon => Sys2Proof.Machine.execQuiesceAbandon s
  | .porRstn => Sys2Proof.Machine.execPorRstn s
  | .stageTimeout => Sys2Proof.Machine.execStageTimeout s
  | .triginEdge l => Sys2Proof.Machine.execTriginEdge l s
  | .trigoutPulseEnd => Sys2Proof.Machine.execTrigoutPulseEnd s
  | .readActive f index => Sys2Proof.Machine.execReadActive f index s
  | .readStaged f index => Sys2Proof.Machine.execReadStaged f index s
  | .writeStaged f index data => Sys2Proof.Machine.execWriteStaged f index data s
  | .readStatus f index => Sys2Proof.Machine.execReadStatus f index s
  | .rawTimeSnapshot f => Sys2Proof.Machine.execRawTimeSnapshot f s
  | .apply f => Sys2Proof.Machine.execApply f s
  | .applyTakesEffect => Sys2Proof.Machine.execApplyTakesEffect s
  | .arm f => Sys2Proof.Machine.execArm f s
  | .disarm f => Sys2Proof.Machine.execDisarm f s
  | .force f => Sys2Proof.Machine.execForce f s
  | .alignOnce f => Sys2Proof.Machine.execAlignOnce f s
  | .clearCounters f => Sys2Proof.Machine.execClearCounters f s
  | .ackConditions f mask => Sys2Proof.Machine.execAckConditions f mask s
  | .writeAlertEnable f mask => Sys2Proof.Machine.execWriteAlertEnable f mask s
  | .readRecord f offset leftAfter => Sys2Proof.Machine.execReadRecord f offset leftAfter s
  | .discardHead f => Sys2Proof.Machine.execDiscardHead f s
  | .spillResume f => Sys2Proof.Machine.execSpillResume f s
  | .spillSkip f => Sys2Proof.Machine.execSpillSkip f s
  | .captureReset f => Sys2Proof.Machine.execCaptureReset f s
  | .syncPulse l => Sys2Proof.Machine.execSyncPulse l s
  | .lossWatchExpiry => Sys2Proof.Machine.execLossWatchExpiry s
  | .unknownCommandByte f byte => Sys2Proof.Machine.execUnknownCommandByte f byte s
  | .resetEnd => Sys2Proof.Machine.execResetEnd s

end Sys2Proof.Machine
end

