-- ==== Sys2Proof/Machine/Idle.lean ====
section
/-! DEFINITION. What the part does while no command waits: it takes one event that is due of itself, or a tick passes (log
entry 1). -/

namespace Sys2Proof.Machine

/-- A step with an empty queue (R39, R135, R154). Held in reset, the part idles (R183). -/
def State.idleStep (s : State) : Host.Outcome State Fault Refusal :=
  if s.held then .next s
  else
    match s.nextDue with
    | some i => exec i s.dueChosen
    | none => .next s.tick

/-- A command put at the front of the queue, where there is one. -/
def State.enqueueFront (s : State) (c : Option Instr) : State :=
  match c with
  | some i => { s with pending := i :: s.pending }
  | none => s

end Sys2Proof.Machine
end

