-- ==== Sys2Proof/Machine/Step.lean ====
section
/-! DEFINITION. One step: the command at the front of the queue, or what the part does of itself when none waits; and the
host's placing of a command that a word spells. -/

namespace Sys2Proof.Machine

/-- The command at the front of the queue is taken whole, with the rest of the queue left waiting; with an empty queue the
part takes an event that is due, or a tick (log entry 1). -/
def step (s : State) : Host.Outcome State Fault Refusal :=
  match s.pending with
  | [] => s.idleStep
  | c :: rest => exec c { s with pending := rest }

/-- The command a word spells is put at the front of the queue. No row of the table has bits, so no word spells one. -/
def State.withFetchWord (s : State) (nbits w : Nat) : State := s.enqueueFront (decodeTableWord nbits w)

end Sys2Proof.Machine
end

