-- ==== Sys2Proof/Safety.lean ====
section
/-! DEFINITION. The terms the statements use: when a command's own effect is all that happens, how a frame ends, what a
FULL_RESET leaves, what an observation, a fire, a close and a placement leave, which fields a word and a status word have, the
CRC-32 by its generator, the assigned bits of a configuration word, and the invariants that every step keeps. -/

namespace Sys2Proof.Machine

/-! ## When a command runs -/

/-- The part is not held in reset and no apply is due before the next event (R154, R183). -/
abbrev State.running (s : State) : Prop := s.held = false ∧ s.applyDue = false

/-- The port takes the frame and acts on it: the part runs, no quiesce is in progress nor was when the frame began, and
the frame has the bytes its command needs (R158). -/
abbrev State.takesFrame (s : State) (f : Frame) (need : Nat) : Prop :=
  s.running ∧ s.quiescing = false ∧ f.beganInQuiesce = false ∧ 1 ≤ f.bytes ∧ need ≤ f.bytes

/-- The state after a frame that changed nothing but the result register and the lines out: the part sent the result of
the frame before, two zero bytes and the data (R157). -/
def State.replied (s : State) (f : Frame) (data : List Byte) (r : Result) : State :=
  { s with config := { s.config with result := r },
           outputs := { upstream := [], mdo := fitBytes f.bytes (s.config.result.byte :: 0 :: 0 :: data) } }

/-- The least whole bytes of a command's frame (R158); 0 for an event that is no frame. -/
def leastFrameBytes : Instr → Nat
  | .readActive _ _ | .readStaged _ _ | .readStatus _ _ | .rawTimeSnapshot _ | .writeStaged _ _ _
  | .ackConditions _ _ | .writeAlertEnable _ _ => 7
  | .readRecord _ _ _ => 3
  | .apply _ | .arm _ | .disarm _ | .force _ | .alignOnce _ | .clearCounters _ | .discardHead _ | .spillResume _
  | .spillSkip _ | .captureReset _ | .fullReset _ | .unknownCommandByte _ _ => 1
  | .requestPresented _ | .take | .holdExpiry | .grant | .dPortTake | .dPortResponse _ | .overdueExpiry _ _ _
  | .quiesceComplete | .quiesceAbandon | .porRstn | .stageTimeout | .triginEdge _ | .trigoutPulseEnd
  | .applyTakesEffect | .syncPulse _ | .lossWatchExpiry | .resetEnd => 0

/-- The command reads a word that it sends back, so a short frame may still have read it (R158). -/
def readsWord : Instr → Bool
  | .readActive _ _ | .readStaged _ _ | .readStatus _ _ | .rawTimeSnapshot _ => true
  | _ => false

/-! ## What a FULL_RESET leaves -/

/-- The state once a FULL_RESET has taken effect, block by block as the table of R163 gives it, with the sticky conditions
it leaves. -/
def State.afterFullReset (s : State) (sticky : Word) : State :=
  { s with
    config := { active := ParamSet.defaults, staged := ParamSet.defaults, generation := 0, applyPending := false,
                refusalCause := none, result := s.config.result }
    transit := { s.transit with table := [], forwardQueue := [], runCount := 0, holdTimer := none,
                                holdExpired := false, quiesceTimer := none }
    observer := { ring := [], sequence := 0 }
    watchStats := List.replicate 16 { hits := 0, lastSequence := none, maxLatency := none }
    trigger := { state := .disarmed, trigout := none, lineSeenLow := s.trigger.lineSeenLow }
    store := { directory := [], openRecord := none, reservation := 0, nextNumber := 0 }
    spill := { engine := .off, producer := 0, wrapCount := 0, consumer := 0, attempt := none,
               tags := s.spill.tags.map fun g => match g with
                 | .inUse _ => .lost
                 | .lost => .lost
                 | .free => .free }
    clock := { s.clock with offset := 0, epoch := 0, once := false, lastPulse := none, lastPhase := none,
                            lossWatch := .idle, snapshot := { raw := 0, aligned := 0, offset := 0, epoch := 0 } }
    conditions := { sticky := sticky, counters := List.replicate 26 0, alertEnable := 0 } }

/-! ## Observations, fires, closes, placements and status words -/

/-- No observation is made of an event: the mode is not OBSERVE, or SELF_QUIET is on and every byte of its burst lies in the
valid ring, or every byte in the enabled page (R32, R36). -/
abbrev State.makesNone (s : State) (b : ObsBody) : Prop :=
  s.config.active.mode? ≠ some .observe ∨
    (s.config.active.selfQuiet = true ∧ ∃ a n, b.address = some a ∧ b.beats = some n ∧
      ((s.config.active.ringValid = true ∧ s.config.active.spillBase.toNat ≤ a.toNat ∧
          a.toNat + 8 * n ≤ s.config.active.spillBase.toNat + s.config.active.spillSize.toNat) ∨
        (s.config.active.pageEnable = true ∧ s.config.active.pageBase.toNat ≤ a.toNat ∧
          a.toNat + 8 * n ≤ s.config.active.pageBase.toNat + 64)))

/-- The observation the unit makes: numbered by the sequence counter, timed by aligned time, with its hit set, and with its
first beat where an entry that it hits captures data (R38, R40, R49, R56). -/
def State.observationOf (s : State) (b : ObsBody) (beat : Option Beat) : Observation :=
  let hits := hitSet s.config.active.watch b beat
  { sequence := s.observer.sequence, timestamp := s.clock.raw + s.clock.offset, body := b, hits := hits,
    dataBeat :=
      if ∃ q ∈ s.config.active.watch.zipIdx, hits.getLsbD q.2 = true ∧ q.1.capture = true then beat else none }

/-- The state an accepted fire leaves, where Q is above 0: R cells reserved, the next record number used, the record open
with the pre part that the walk gives, the walked entries claimed, CAPTURING, TRIGOUT high where enabled, and the fire and
the suppressed observations counted (R70, R90, R91). The trigger time is read in the tick of the trigger observation's
timestamp: the model's choice (log entry 33). -/
def State.recordOpened (s : State) (cause : TriggerCause) (withObservation : Bool) : State :=
  let p := s.config.active
  let w := preWalk p (p.preCount.toNat + withObservation.toNat) s.observer.ring []
  (({ s with
    trigger := { s.trigger with state := .capturing,
                                trigout := if p.trigoutEnable then some 0 else s.trigger.trigout }
    observer := { s.observer with ring := w.1 }
    store := { s.store with
      reservation := p.reservation
      nextNumber := s.store.nextNumber + 1
      openRecord := some {
        number := s.store.nextNumber, generation := s.config.generation, cause := cause,
        triggerTime := s.clock.raw + s.clock.offset, epoch := s.clock.epoch, observations := w.2.1,
        preCount := w.2.1.length, triggerIndex := if withObservation then some (w.2.1.length - 1) else none,
        postRemaining := p.postCount.toNat, suppressed := satAdd 0 w.2.2, nested := 0, truncated := false,
        aborted := false, extended := false, epochChanged := false } } } : State).count .fires).countBy .suppressed w.2.2

/-- The state a placement of the head `h` leaves, by its outcome (R115, R117, R123). -/
def State.headPlaced (s : State) (h : DirectoryEntry) (rest : List DirectoryEntry) : State :=
  let p := s.config.active
  match placement p.area s.spill.producer (ringFree p.area s.spill.producer s.spill.consumer) h.cells.length
      s.spill.wrapCount with
  | .noRoom => { s with spill := { s.spill with engine := .waitSpace, attempt := none } }
  | .oversize => ({ s with spill := { s.spill with engine := .fault .oversize, attempt := none } } : State).raise .spillFault
  | .loneWrap m w =>
    { s with spill := { s.spill with
        engine := .writing
        attempt := some { kind := .loneWrap, recordOffset := none, markerOffset := some m,
                          writes := [⟨p.spillBase.toNat + 64 + m, [wrapMarker]⟩], unacknowledged := 1,
                          publish := some ⟨p.spillBase.toNat + 8, [producerWord 0 w]⟩,
                          newProducer := 0, newWrap := w } } }
  | .record m o np w =>
    { s with
      store := { s.store with directory := { h with state := .spilling } :: rest }
      spill := { s.spill with engine := .writing, attempt := some (recordAttempt p h.cells m o np w) } }

/-- A stale publish is in use (R131). -/
abbrev State.stalePublishInUse (s : State) : Prop :=
  (s.spill.tags.any fun g => match g with
    | .inUse u => u.stale && u.role != .body
    | .lost => false
    | .free => false) = true

/-- The state a close of the record `r` leaves, the trigger unit in `left`: the record at the directory's tail, READY, its
reservation given back, the close counted, and TRUNCATED and ABORTED too; an IDLE engine with no stale publish in use takes
the head and places it; and hold follows the store (R100, R117, R26). -/
def State.recordClosed (s : State) (r : OpenRecord) (left : TriggerState) : State :=
  let t := ({ s with
    trigger := { s.trigger with state := left }
    store := { s.store with
      directory := s.store.directory ++ [DirectoryEntry.mk r.number r.cells .ready]
      openRecord := none
      reservation := 0 } } : State).count .recordsClosed
  let t := if r.truncated then t.count .truncated else t
  let t := if r.aborted then t.count .aborted else t
  let t := match t.store.directory with
    | h :: rest => if s.spill.engine = EngineState.idle ∧ ¬s.stalePublishInUse then t.headPlaced h rest else t
    | [] => t
  t.followHold

/-- Stage 0 just entered; it has no timer (R62). -/
def stageZero : TriggerState := .armed { stage := 0, outcomes := [], cumulative := 0, timer := none }

/-- Where the unit goes from CAPTURING when its record completes: stage 0 under REPEAT, DISARMED under SINGLE (R75). -/
def State.afterCapture (s : State) : TriggerState :=
  if s.config.active.repeatMode? = some .repeating then stageZero else .disarmed

/-- `t` is what a fire at `s` gives. Refused by a store with fewer than R cells free or a full directory: FIRE_REFUSED, the
count and stage 0 (R71). Accepted with Q above 0: the record opens and hold follows the store (R70, R90). Accepted with Q of
0: the record closes at the fire (R97), and hold follows only after that close: the model's choice (log entry 19). -/
def State.fireGives (s : State) (cause : TriggerCause) (withObservation : Bool) (t : State) : Prop :=
  let p := s.config.active
  let opened := s.recordOpened cause withObservation
  ((s.freeCells < p.reservation ∨ 256 ≤ s.store.directory.length) →
    t = ((({ s with trigger := { s.trigger with state := stageZero } } : State).raise .fireRefused).count .refused)) ∧
  (p.reservation ≤ s.freeCells → s.store.directory.length < 256 → p.postCount ≠ 0 → t = opened.followHold) ∧
  (p.reservation ≤ s.freeCells → s.store.directory.length < 256 → p.postCount = 0 →
    ∀ r, opened.store.openRecord = some r → t = opened.recordClosed r s.afterCapture)

/-- A word holds these fields, each by its place, width and value, and 0 at every bit outside them (11.1, 11.4). -/
abbrev hasFields {n : Nat} (w : BitVec n) (fields : List (Nat × Nat × Nat)) : Prop :=
  ∀ k < n, w.getLsbD k = fields.any fun f => f.1 ≤ k && k < f.1 + f.2.1 && f.2.2.testBit (k - f.1)

/-- The CRC register after one more bit: shifted left, with the generator 0x04C11DB7 where the bit that leaves it and the bit
that enters differ (R182). -/
def crcShift (register : Word) (bit : Bool) : Word :=
  if register.msb != bit then register <<< 1 ^^^ 0x04C11DB7 else register <<< 1

/-- The CRC-32 of R182 by its five parameters: the generator; each byte taken least significant bit first; the output
reflected; the register all ones at first; and the final XOR all ones. -/
def crcByGenerator (bytes : List Byte) : Word :=
  ((bytes.flatMap fun b => (List.range 8).map b.getLsbD).foldl crcShift (BitVec.allOnes 32)).reverse ^^^ BitVec.allOnes 32

/-- The status word of an index gives exactly the bits of these fields, each by its place, width and value; a bit outside them
belongs to no field, or to the field of an absent item (11.5; log entry 10). -/
def State.statusHas (s : State) (i : Nat) (fields : List (Nat × Nat × Nat)) : Prop :=
  ∃ w, s.statusWord i = some w ∧
    (∀ f ∈ fields, ∀ k < f.2.1,
      w.known.getLsbD (f.1 + k) = true ∧ w.value.getLsbD (f.1 + k) = f.2.2.testBit k) ∧
    ∀ n, w.known.getLsbD n = true → ∃ f ∈ fields, f.1 ≤ n ∧ n < f.1 + f.2.1

/-! ## The assigned bits of a configuration word -/

/-- The bits of the word at an offset of a watch entry that 11.4 assigns to a field. -/
def watchWordMask (off : Nat) : Word :=
  if off = 0 then 0x03137F01 else if off = 1 then 0x00007FFF else if off = 2 then 0x00FFFFFF
  else if off = 4 ∨ off = 6 then 0x000000FF else 0xFFFFFFFF

/-- The bits of the word at an offset of a stage that 11.4 assigns to a field. -/
def stageWordMask (off : Nat) : Word :=
  if off = 0 then 0x007F7F33 else if off = 1 then 0x0000FFFF else 0x00FFFFFF

/-- The bits of a configuration word that 11.4 assigns to a field; the others read as zero (R151). -/
def configWordMask (i : Nat) : Word :=
  if i = 0x000 then 0x00033FFF
  else if i = 0x001 ∨ i = 0x002 ∨ i = 0x003 then 0x00FFFFFF
  else if i = 0x004 then 0x7FF3FFFF
  else if i = 0x005 then 0x0000FFFF
  else if i = 0x021 ∨ i = 0x032 then 0x000000FF
  else if i = 0x023 then 0x00000F01
  else if i = 0x030 then 0x00000001
  else if i = 0x033 then 0x00007FFF
  else if i = 0x040 then 0x0000FF03
  else if i = 0x041 then 0x01FFFFFF
  else if 0x100 ≤ i ∧ i < 0x200 then watchWordMask ((i - 0x100) % 16)
  else if 0x200 ≤ i ∧ i < 0x220 then stageWordMask ((i - 0x200) % 8)
  else 0xFFFFFFFF

/-! ## Invariants -/

/-- The transit table holds at most 48 entries (R3), numbered in take order (R7). Nothing in it is left to do: no READY
answer could be sent and no entry could be freed (R9, R18). -/
def State.tableSound (s : State) : Prop :=
  s.transit.table.length ≤ 48 ∧ (s.transit.table.map (·.id)).Pairwise (· < ·) ∧
    (∀ e ∈ s.transit.table, e.id < s.transit.takes) ∧
    ∀ e ∈ s.transit.table, releaseKey e.key s.transit.table = (s.transit.table, [])

/-- The ring holds at most 512 entries, and the newest, at place 0, is the most recent observation made; the sequence
numbers are consecutive modulo 2^32 (R43). -/
def State.ringSound (s : State) : Prop :=
  s.observer.ring.length ≤ 512 ∧
    ∀ p ∈ s.observer.ring.zipIdx, p.1.obs.sequence = s.observer.sequence - BitVec.ofNat 32 (p.2 + 1)

/-- A set has its sixteen watch entries and its four stages (R47, R61). -/
def ParamSet.shaped (p : ParamSet) : Prop := p.watch.length = 16 ∧ p.stages.length = 4

/-- The ACTIVE set has passed the checks of R152, and so has a set that waits to take effect (R151, R153). -/
def State.setsSound (s : State) : Prop :=
  s.config.active.shaped ∧ s.config.staged.shaped ∧ s.config.active.firstFailed = none ∧
    (s.config.applyPending = true → s.config.staged.firstFailed = none)

/-- What holds of the open record: the unit is CAPTURING exactly while there is one (R60), its reservation is R (R86), and
its kept observations leave room for one more (R93), with no data beat while d is 0. -/
def State.openSound (s : State) : Prop :=
  match s.store.openRecord with
  | none => s.trigger.state ≠ .capturing ∧ s.store.reservation = 0
  | some r =>
    s.trigger.state = .capturing ∧ s.store.reservation = s.config.active.reservation ∧
      s.store.directory.length < 256 ∧ s.config.active.postCount ≠ 0 ∧
      r.observations.length < s.config.active.maxObs.toNat ∧
      (s.config.active.dataCells = 0 → r.dataBeats = 0)

/-- The directory's cells and the reservation fit in the store, and the directory holds at most 256 records (R85). An
unclaimed ring entry carries a data beat only while d is 1 (R45, R56). -/
def State.storeSound (s : State) : Prop :=
  s.setsSound ∧ s.openSound ∧ cellsOf s.store.directory + s.store.reservation ≤ 16384 ∧
    s.store.directory.length ≤ 256 ∧
    (s.config.active.dataCells = 0 → ∀ e ∈ s.observer.ring, e.claimed = false → e.obs.dataBeat = none)

/-- A record attempt runs (R112). -/
def State.writesRecord (s : State) : Bool :=
  match s.spill.attempt with
  | some a => a.kind == .record
  | none => false

/-- An INIT attempt runs (R112). -/
def State.writesInit (s : State) : Bool :=
  match s.spill.attempt with
  | some a => a.kind == .init
  | none => false

/-- The head of the directory is SPILLING exactly while a record attempt runs, and every other entry is READY (R104,
R112). -/
def State.headSound (s : State) : Prop :=
  match s.store.directory with
  | [] => s.writesRecord = false
  | h :: rest => (h.state = .spilling ↔ s.writesRecord = true) ∧ ∀ e ∈ rest, e.state = .ready

/-- The engine is OFF exactly while the ACTIVE set has no route SPILL with a valid ring (R113), an attempt runs exactly in
INIT, WRITING and PUBLISH, and an INIT attempt exactly in INIT (R112). -/
def State.engineSound (s : State) : Prop :=
  (s.spill.engine = .off ↔
      ¬(s.config.active.drainRoute? = some .spill ∧ s.config.active.ringValid = true)) ∧
    (s.spill.attempt.isSome = true ↔
      s.spill.engine = .init ∨ s.spill.engine = .writing ∨ s.spill.engine = .publish) ∧
    (s.spill.engine = .init ↔ s.writesInit = true) ∧
    s.headSound

/-- A hold episode lasts exactly while a request waits and HOLD is in force (R26). -/
def State.holdSound (s : State) : Prop :=
  s.transit.holdTimer.isSome = (s.holdInForce && s.transit.upstream.isSome)

end Sys2Proof.Machine
end

