-- ==== Sys2Proof/Certificates/Slice0/Obligations.lean ====
section
/-! DEFINITION. The statements for the provers. Wherever one speaks of the lines out, of a take's number or of the next
free choice, it speaks of the model's own record of them (log entries 15, 16, and 7 to 10). -/

section Statements

open Sys2Proof Sys2Proof.Machine

/-! ## The queue, the step and the reset -/

/-- A step with a waiting command is that command's meaning, with the rest of the queue left waiting. -/
def Obligations.FrontCommandRuns : Prop :=
  ∀ (c : Instr) (rest : List Instr) (s : State), s.pending = c :: rest → step s = exec c { s with pending := rest }

/-- With an empty queue (log entries 1, 8 and 31, the model's choice): held in reset the part idles; a due apply is taken;
else one of the events that are due is taken; else one tick passes, and every timer that runs counts it. Due are the end of a
quiesce with an empty table and at its limit, a TAKE past every obstacle, a GRANT with a claimant, the expiries of hold, stage,
TRIGOUT, loss watch and each entry, each once its time is reached. -/
def Obligations.EmptyQueueStep : Prop :=
  (∀ (s : State) (i : Instr), i ∈ s.dueEvents ↔
    (i = .quiesceComplete ∧ s.transit.quiesceTimer ≠ none ∧ s.transit.table = []) ∨
    (i = .quiesceAbandon ∧ s.transit.table ≠ [] ∧
      ∃ n, s.transit.quiesceTimer = some n ∧ s.config.active.quiesceLimit.toNat ≤ n) ∨
    (i = .take ∧ s.transit.upstream ≠ none ∧ s.transit.table.length < 48 ∧ s.holdInForce = false ∧
      s.transit.quiesceTimer = none) ∨
    (i = .grant ∧ s.transit.dPort = none ∧ (s.transit.forwardQueue ≠ [] ∨ s.spillClaim ≠ none)) ∨
    (i = .holdExpiry ∧ ∃ n, s.transit.holdTimer = some n ∧ s.config.active.holdLimit.toNat ≤ n) ∨
    (i = .stageTimeout ∧ ∃ a n, s.trigger.state = .armed a ∧ a.timer = some n ∧
      (s.config.active.stage a.stage).timeout.toNat ≤ n) ∨
    (i = .trigoutPulseEnd ∧ ∃ n, s.trigger.trigout = some n ∧ 8 ≤ n) ∨
    (i = .lossWatchExpiry ∧ s.clock.lossWatch = .watching ∧
      ∃ t, s.clock.lastPulse = some t ∧ 2 * s.config.active.period.toNat ≤ (s.clock.raw - t).toNat) ∨
    ∃ (e : Entry) (pre post : List Entry), s.transit.table = pre ++ e :: post ∧
      i = .overdueExpiry e.key.initiator e.key.tag (pre.countP fun x => x.key == e.key) ∧
      e.answer = .pending ∧ e.overdueSeen = false ∧
      ∃ d, e.deadline = some d ∧ (d - e.takeTime).toNat ≤ (s.clock.raw - e.takeTime).toNat) ∧
  ∀ s : State, s.pending = [] →
    (s.held = true → step s = .next s) ∧
    (s.held = false → s.applyDue = true → step s = exec .applyTakesEffect s) ∧
    (s.held = false → s.applyDue = false → s.dueEvents ≠ [] →
      ∃ i ∈ s.dueEvents, ∃ n, step s = exec i { s with freeIndex := s.freeIndex + n }) ∧
    (s.held = false → s.applyDue = false → s.dueEvents = [] →
      step s = .next { s with
        clock := { s.clock with raw := s.clock.raw + 1 }
        transit := { s.transit with holdTimer := s.transit.holdTimer.map (· + 1)
                                    quiesceTimer := s.transit.quiesceTimer.map (· + 1) }
        trigger := { s.trigger with
          trigout := s.trigger.trigout.map (· + 1)
          state := match s.trigger.state with
            | .armed a => .armed { a with timer := a.timer.map (· + 1) }
            | .disarmed => .disarmed
            | .capturing => .capturing }
        outputs := { s.outputs with upstream := [] } })

/-- No command's meaning touches the queue, and none ends in a fault or a refusal, a command that no message or frame can carry
included (the model's choice, log entry 22). -/
def Obligations.QueueIsLeftAlone : Prop :=
  ∀ (c : Instr) (s : State), ∃ t : State, exec c s = .next t ∧ t.pending = s.pending

/-- While the part is held in reset, nothing but the reset itself, its end and a presented request changes anything (the
model's reading, log entry 6). -/
def Obligations.HeldPartIgnoresCommands : Prop :=
  ∀ (c : Instr) (s : State), s.held = true → c ≠ .porRstn → c ≠ .resetEnd → (∀ r, c ≠ .requestPresented r) →
    exec c s = .next s

/-- An apply with no obstacle left is taken before any command or event but POR/RSTN (the model's reading of R154, log
entry 4), the taking of a waiting request among them, though one event may have removed the last obstacle of both (log entry
31). -/
def Obligations.DueApplyComesFirst : Prop :=
  ∀ (c : Instr) (s t : State), s.held = false → s.applyDue = true → c ≠ .porRstn → c ≠ .resetEnd →
    exec .applyTakesEffect s = .next t → t.applyDue = false ∧ exec c s = exec c t

/-- The machine right after reset: every value the manual gives for POR/RSTN, the two sets field by field: code 0 of every
enumerated field (PASS, REPORT, SKIP, OFF, SINGLE, COUNT, PORT, ANY, HITS), NEXT as action 0 and FIRE as action 1, and the
timeout of stage 0, which no word holds, at 0 too. That the reset has ended and that nothing waits is the model's choice (log
entry 5), and so are the zero words of an absent range or data compare in the default watch entries (log entry 28). -/
def Obligations.ResetHoldsPowerOnValues : Prop :=
  (let entry : WatchEntry :=
      { enabled := false, kinds := 0, hasRange := false, low := 0, high := 0, initiators := 0, statusFilter := 0, floor := 0,
        hasCompare := false, compareValue := 0, compareMask := 0, capture := false }
    let stage := fun action : BitVec 2 =>
      ({ condition := 0, action := action, count := 1, window := 1, watchSet := 0, timeout := 0 } : StageDef)
    ParamSet.defaults =
      { mode := 0, overdueAction := 0, capturePolicy := 0, triginMode := 0, repeatMode := 0, retriggerMode := 0,
        drainRoute := 0, selfQuiet := true, trigoutEnable := true, overdueLimit := 0, holdLimit := 65536,
        quiesceLimit := 1048576, preCount := 16, postCount := 16, maxObs := 64, suppress := 0, spillBase := 0,
        spillSize := 0, protection := false, share := 4, pageEnable := false, pageBase := 0, permit := 0,
        syncMode := 0, jitter := 0, period := 64,
        watch := [entry, entry, entry, entry, entry, entry, entry, entry, entry, entry, entry, entry, entry, entry,
          entry, entry],
        stages := [stage 1, stage 0, stage 0, stage 1] }) ∧
    State.reset.config.active = ParamSet.defaults ∧ State.reset.config.staged = ParamSet.defaults ∧
    State.reset.config.generation = 0 ∧ State.reset.config.applyPending = false ∧
    State.reset.config.refusalCause = none ∧ State.reset.config.result = .done ∧
    State.reset.transit.table = [] ∧ State.reset.transit.forwardQueue = [] ∧ State.reset.transit.dPort = none ∧
    State.reset.transit.runCount = 0 ∧ State.reset.transit.holdTimer = none ∧
    State.reset.transit.holdExpired = false ∧ State.reset.transit.quiesceTimer = none ∧
    State.reset.transit.abandoned = [] ∧ State.reset.observer.ring = [] ∧ State.reset.observer.sequence = 0 ∧
    State.reset.watchStats = List.replicate 16 { hits := 0, lastSequence := none, maxLatency := none } ∧
    State.reset.trigger.state = .disarmed ∧ State.reset.trigger.trigout = none ∧
    State.reset.trigger.lineSeenLow = false ∧ State.reset.clock.lineSeenLow = false ∧
    State.reset.store.directory = [] ∧ State.reset.store.openRecord = none ∧ State.reset.store.reservation = 0 ∧
    State.reset.store.nextNumber = 0 ∧ State.reset.freeCells = 16384 ∧ State.reset.spill.engine = .off ∧
    State.reset.spill.producer = 0 ∧ State.reset.spill.wrapCount = 0 ∧ State.reset.spill.consumer = 0 ∧
    State.reset.spill.attempt = none ∧ State.reset.spill.tags = List.replicate 4 .free ∧
    State.reset.clock.raw = 0 ∧ State.reset.clock.offset = 0 ∧ State.reset.clock.epoch = 0 ∧
    State.reset.clock.once = false ∧ State.reset.clock.lastPulse = none ∧ State.reset.clock.lastPhase = none ∧
    State.reset.clock.lossWatch = .idle ∧
    State.reset.clock.snapshot = { raw := 0, aligned := 0, offset := 0, epoch := 0 } ∧
    State.reset.conditions.sticky = 0 ∧
    State.reset.conditions.counters = List.replicate 26 0 ∧ State.reset.conditions.alertEnable = 0 ∧
    State.reset.alert = false ∧ State.reset.busy = false ∧ State.reset.trigoutHigh = false ∧
    State.reset.held = false ∧ State.reset.pending = []

/-! ## The transit unit -/

/-- A presented request waits on the channel. With the table full it sets TABLE_FULL; while HOLD is in force and no episode
lasts it starts one, with the timer at 0; where HOLD is not in force the timer is idle and the hold-expired state lasts only
while STORE_LOW does. And hold follows its causes: the hold-expired state clears with STORE_LOW; HOLD is in force under policy
HOLD and mode OBSERVE while STORE_LOW holds and the hold-expired state is clear; an episode starts, counted and with its timer
at 0, where a request waits and none lasts, and ends where HOLD is not in force. The start of an event takes the answers of
the event before off the model's own record of the lines out (log entry 15), and changes nothing else. -/
def Obligations.PresentedRequestAndHold : Prop :=
  (∀ s : State, s.beginEvent = { s with outputs := { s.outputs with upstream := [] } } ∧
    s.quiescing = s.transit.quiesceTimer.isSome ∧
    (s.holdInForce = true ↔ s.config.active.capturePolicy? = some .hold ∧ s.config.active.mode? = some .observe ∧
      s.storeLow = true ∧ s.transit.holdExpired = false)) ∧
  (∀ (r : Request) (s : State), s.running → s.transit.upstream = none →
    (s.holdInForce = false →
      exec (.requestPresented r) s = .next
        (let t := { s.beginEvent with
          transit := { s.transit with upstream := some r, holdTimer := none,
                                      holdExpired := s.transit.holdExpired && s.storeLow } }
         if 48 ≤ s.transit.table.length then t.raise .tableFull else t)) ∧
    (s.holdInForce = true → s.transit.holdTimer = none →
      exec (.requestPresented r) s = .next
        (let t := ({ s.beginEvent with
          transit := { s.transit with upstream := some r, holdTimer := some 0 } } : State).count .holdEpisodes
         if 48 ≤ s.transit.table.length then t.raise .tableFull else t))) ∧
  (∀ s : State,
    let expired := s.transit.holdExpired && s.storeLow
    let force := s.config.active.capturePolicy? == some .hold && s.config.active.mode? == some .observe &&
      s.storeLow && !expired
    (force = false →
      s.followHold = { s with transit := { s.transit with holdExpired := expired, holdTimer := none } }) ∧
    (force = true → (s.transit.holdTimer.isSome = true ∨ s.transit.upstream = none) → s.followHold = s) ∧
    (force = true → s.transit.holdTimer = none → s.transit.upstream.isSome = true →
      s.followHold = ({ s with transit := { s.transit with holdTimer := some 0 } } : State).count .holdEpisodes))

/-- The three decline checks, in their order: initiator 15; a burst beyond its 4096-byte page; and, with protection on and
a valid ring, a WRITE with a beat in the ring outside the consumer word, or with a beat on the consumer word that is not a
single beat there with a full byte mask. -/
def Obligations.DeclineChecksDecideInOrder : Prop :=
  ∀ (p : ParamSet) (r : Request),
    let base := p.spillBase.toNat
    let beat := fun k : Nat => r.address.toNat + 8 * k
    let boundary := 4096 < r.address.toNat % 4096 + 8 * r.beats
    let window := r.kind = Access.write ∧ p.protection = true ∧ p.ringValid = true ∧
      ((∃ k < r.beats, base ≤ beat k ∧ beat k < base + p.spillSize.toNat ∧ beat k ≠ base + 16) ∨
        ((∃ k < r.beats, beat k = base + 16) ∧
          ¬(r.beats = 1 ∧ r.address.toNat = base + 16 ∧ r.data.head?.map (·.mask) = some 0xFF)))
    (declineReason p r = some .initiator ↔ r.initiator = 15) ∧
      (declineReason p r = some .boundary ↔ r.initiator ≠ 15 ∧ boundary) ∧
      (declineReason p r = some .window ↔ r.initiator ≠ 15 ∧ ¬boundary ∧ window)

/-- The part takes the presented request where no obstacle holds it back. Accepted: its entry joins the table and the forward
queue at their tails, QUEUED, WAITING and PENDING, with its take time, its deadline where the limit is nonzero, the first
beat of a WRITE and its snoop beat, and nothing else changes. Declined: the reason's counter counts, the DECLINED observation
is asked for while its entry, READY with FAULT and zero data for a READ, stands at the table's tail, and its key's answers
leave as they may, behind the older ones of its key; with no other entry of its key the answer goes at once and no entry is
left. While an obstacle is there (48 entries, HOLD in force, a quiesce), or with no request presented, nothing is taken; that a
TAKE commanded then changes nothing is the model's choice (log entry 2). That a take which fills the table to 48 sets no
TABLE_FULL is the model's reading of R3 and R173: no other request can be presented at that event (log entry 23). And what a
snoop beat is: none for a READ, nor for a WRITE with no beat on a recognised word; else the beat that lies on the command word,
at the page base of an enabled page, or on the consumer word, at the spill base + 16 of a valid ring, with the request's beats
count. No legal burst covers both words. -/
def Obligations.TakeActsOnPresentedRequest : Prop :=
  (∀ (s : State) (r : Request), s.running → s.transit.upstream = some r → s.transit.table.length < 48 →
    s.holdInForce = false → s.quiescing = false →
    let e : Entry :=
      { id := s.transit.takes, key := ⟨r.initiator, r.tag⟩, kind := r.kind, address := r.address, beats := r.beats,
        firstBeat := if r.kind = .write then r.data.head? else none, snoop := snoopBeat s.config.active r,
        takeTime := s.clock.raw,
        deadline := if s.config.active.overdueLimit = 0 then none
          else some (s.clock.raw + s.config.active.overdueLimit.setWidth 48),
        origin := .forwarded, path := .queued, downstream := .waiting, answer := .pending, overdueSeen := false }
    (declineReason s.config.active r = none →
      exec .take s = .next { s.beginEvent with
        transit := { s.transit with
          upstream := none
          takes := s.transit.takes + 1
          forwardQueue := s.transit.forwardQueue ++ [⟨s.transit.takes, r⟩]
          table := s.transit.table ++ [e] } }) ∧
    (∀ d, declineReason s.config.active r = some d →
      let data := if r.kind = .read then List.replicate r.beats 0 else []
      let declined : Entry := { e with
        snoop := none, origin := .declined d, path := .none, downstream := .notSent, answer := .ready ⟨.fault, data⟩ }
      let reason : Counter := match d with
        | .initiator => .declinedInitiator
        | .boundary => .declinedBoundary
        | .window => .declinedWindow
      let t := (({ s.beginEvent with
        transit := { s.transit with upstream := none, takes := s.transit.takes + 1,
                                    table := s.transit.table ++ [declined] } } : State).count reason).observe
        { kind := .declined, access := some r.kind, initiator := some r.initiator, tag := some r.tag,
          address := some r.address, beats := some r.beats, status := some .fault, reason := some d } none
      let sent := releaseKey ⟨r.initiator, r.tag⟩ (s.transit.table ++ [declined])
      exec .take s = .next { t with
        transit := { t.transit with table := sent.1 }
        outputs := { t.outputs with upstream := sent.2 } } ∧
      ((∀ x ∈ s.transit.table, x.key ≠ ⟨r.initiator, r.tag⟩) → sent = (s.transit.table,
        [{ kind := r.kind, initiator := r.initiator, tag := r.tag, status := .fault, data := data }])))) ∧
  (∀ s : State, s.running →
    (s.transit.upstream = none ∨ 48 ≤ s.transit.table.length ∨ s.holdInForce = true ∨ s.quiescing = true) →
    exec .take s = .next s.beginEvent) ∧
  (∀ (p : ParamSet) (r : Request),
    let command := fun k : Nat => p.pageEnable = true ∧ r.address.toNat + 8 * k = p.pageBase.toNat
    let consumer := fun k : Nat => p.ringValid = true ∧ r.address.toNat + 8 * k = p.spillBase.toNat + 16
    (r.kind = .read → snoopBeat p r = none) ∧
    ((∀ k < r.beats, ¬command k ∧ ¬consumer k) → snoopBeat p r = none) ∧
    (∀ k b, r.kind = .write → k < r.beats → r.data[k]? = some b →
      (command k → (∀ j < r.beats, ¬consumer j) →
        snoopBeat p r = some { word := .command, beat := b, beats := r.beats }) ∧
      (consumer k → (∀ j < r.beats, ¬command j) →
        snoopBeat p r = some { word := .consumer, beat := b, beats := r.beats })))

/-- The arbiter's table, with the channel free. The forward head is granted where the engine does not claim, or where it
claims while the store is not low and the run count is below SHARE; the engine's write is granted in every other case in
which it claims. The run count counts forward grants made against a claim. A GRANT commanded while no one claims changes
nothing: that is the model's choice (log entry 2). -/
def Obligations.GrantFollowsDecisionTable : Prop :=
  ∀ s : State, s.running → s.transit.dPort = none →
    (∀ q rest, s.transit.forwardQueue = q :: rest →
      (s.spillClaim = none ∨ (s.storeLow = false ∧ s.transit.runCount < s.config.active.share.toNat)) →
      exec .grant s = .next { s.beginEvent with
        transit := { s.transit with
          forwardQueue := rest
          dPort := some ⟨q.request, .forward q.id⟩
          runCount := if s.spillClaim.isSome then s.transit.runCount + 1 else 0
          table := s.transit.table.map fun e =>
            if e.id = q.id then { e with downstream := .presented } else e } }) ∧
    (∀ tag w role a, s.spillClaim = some (tag, w, role, a) →
      (s.transit.forwardQueue = [] ∨ s.storeLow = true ∨ s.config.active.share.toNat ≤ s.transit.runCount) →
      exec .grant s = .next { s.beginEvent with
        transit := { s.transit with
          runCount := 0
          dPort := some ⟨{ kind := .write, initiator := 15, tag := BitVec.ofNat 6 tag,
                           address := BitVec.ofNat 40 w.address, beats := w.cells.length,
                           data := w.cells.map fun c => ⟨c, 0xFF⟩ }, .spill⟩ }
        spill := { s.spill with
          attempt := some a
          tags := s.spill.tags.set tag (.inUse { role := role, stale := false, taken := false }) } }) ∧
    (s.transit.forwardQueue = [] → s.spillClaim = none → exec .grant s = .next s.beginEvent)

/-- What the engine claims, and what its writes are. It claims nothing while a stale write is in use, while a write of its own
stands presented, without a free tag, without an attempt, or before its publish's turn; else it claims its attempt's next
write under the lowest-numbered free tag, and the publish once every other write has been acknowledged. A record attempt
writes its marker, if it has one, and then the record's cells as bursts: in order, each of as many cells as the three limits
allow (16, the cells that remain, the next 4096-byte boundary), each where the one before ended. That INIT's second write takes
the lowest free tag as well, which may be the descriptor's own where that was acknowledged before, is the model's choice
between R118 and R130, which says separate tags (log entry 34). -/
def Obligations.SpillWritesHaveTheirTurn : Prop :=
  (∀ s : State,
    let stale := ∃ u, TagState.inUse u ∈ s.spill.tags ∧ u.stale = true
    let presented := ∃ q, s.transit.dPort = some q ∧ q.claimant = .spill
    (stale ∨ presented ∨ (∀ g ∈ s.spill.tags, g ≠ .free) ∨ s.spill.attempt = none → s.spillClaim = none) ∧
    (∀ a, s.spill.attempt = some a → a.writes = [] → (a.unacknowledged ≠ 0 ∨ a.publish = none) → s.spillClaim = none) ∧
    (∀ a n, ¬stale → ¬presented → s.spill.attempt = some a → s.spill.tags[n]? = some .free →
      (∀ m < n, s.spill.tags[m]? ≠ some .free) →
      (∀ w rest, a.writes = w :: rest → s.spillClaim = some (n, w, .body, { a with writes := rest })) ∧
      (∀ w, a.writes = [] → a.unacknowledged = 0 → a.publish = some w →
        s.spillClaim = some (n, w, .publish a.newProducer a.newWrap, { a with publish := none })))) ∧
  (∀ (p : ParamSet) (cells : List Cell) (marker : Option Nat) (o np : Nat) (w : Word),
    let a := recordAttempt p cells marker o np w
    a.writes = (match marker with
        | some m => [⟨p.spillBase.toNat + 64 + m, [wrapMarker]⟩]
        | none => []) ++ cutBursts cells.length (p.spillBase.toNat + 64 + o) cells ∧
      a.unacknowledged = a.writes.length ∧ a.publish = some ⟨p.spillBase.toNat + 8, [producerWord np w]⟩ ∧
      a.kind = .record ∧ a.newProducer = np ∧ a.newWrap = w) ∧
  (∀ (address : Nat) (cells : List Cell), address % 8 = 0 →
    let ws := cutBursts cells.length address cells
    ws.flatMap (·.cells) = cells ∧
      ∀ i w, ws[i]? = some w →
        let before := ((ws.take i).map (·.cells.length)).sum
        w.address = address + 8 * before ∧ 1 ≤ w.cells.length ∧
          w.cells.length = min 16 (min (cells.length - before) ((4096 - w.address % 4096) / 8)))

/-- The memory controller takes the presented request: the channel is free; an entry becomes TAKEN, and ISSUED if it was
QUEUED; a spill write is outstanding. -/
def Obligations.DPortTakeFreesChannel : Prop :=
  ∀ (s : State) (r : Request), s.running →
    (∀ id, s.transit.dPort = some ⟨r, .forward id⟩ →
      exec .dPortTake s = .next { s.beginEvent with
        transit := { s.transit with
          dPort := none
          table := s.transit.table.map fun e =>
            if e.id = id then
              { e with downstream := .taken, path := if e.path = .queued then .issued else e.path }
            else e } }) ∧
    (∀ u, s.transit.dPort = some ⟨r, .spill⟩ → s.spill.tags[r.tag.toNat]? = some (.inUse u) →
      exec .dPortTake s = .next { s.beginEvent with
        transit := { s.transit with dPort := none }
        spill := { s.spill with tags := s.spill.tags.set r.tag.toNat (.inUse { u with taken := true }) } })

/-- A response to the oldest entry of its key that is TAKEN and ISSUED or CUT, in either mode and whatever else the key's list
holds. ISSUED: the answer becomes READY and the path NONE, and the READ or WRITE observation is asked for, with the latency
since the take, the overdue-seen mark and the first beat (a WRITE's first request beat, a READ's first value, zero for FAULT);
an OKAY write with a snoop beat offers it, the observation and the offer in either order (log entry 7) with a due apply, if
any, between them (log entry 30). CUT: the response is late, the path becomes NONE, LATE is set and counted and the LATE
observation is asked for. Then the key's answers leave as they may. Where the entry is the only one of its key, its answer, a
READ's data cut or filled with zeros to its beats, goes upstream at once under the entry's kind and the entry is freed, and a
late response frees an entry already answered and sends nothing. -/
def Obligations.MatchedResponseActs : Prop :=
  ∀ (s : State) (r : Response) (e : Entry) (pre post : List Entry), s.running → r.initiator ≠ 15 →
    abandonedOf s.transit.abandoned ⟨r.initiator, r.tag⟩ = 0 → s.transit.table = pre ++ e :: post →
    (∀ x ∈ pre ++ post, x.id ≠ e.id) →
    (∀ x ∈ pre, x.key = e.key → x.downstream = .taken → x.path ≠ .issued ∧ x.path ≠ .cut) →
    e.key = ⟨r.initiator, r.tag⟩ → e.downstream = .taken →
    let latency := min (s.clock.raw - e.takeTime).toNat (2 ^ 24 - 1)
    let data := if e.kind = .read then (r.data ++ List.replicate e.beats 0).take e.beats else []
    let entered := fun e' : Entry =>
      ({ s.beginEvent with transit := { s.transit with table := pre ++ e' :: post } } : State)
    let sent := fun e' : Entry => releaseKey e.key (pre ++ e' :: post)
    let left := fun (t : State) (e' : Entry) =>
      ({ t with transit := { t.transit with table := (sent e').1 }
                outputs := { t.outputs with upstream := (sent e').2 } } : State)
    (e.path = .issued →
      let e' : Entry := { e with path := .none, answer := .ready ⟨r.status, data⟩ }
      let t := entered e'
      let body : ObsBody :=
        { kind := if e.kind = .read then .read else .write, initiator := some r.initiator, tag := some r.tag,
          address := some e.address, beats := some e.beats, status := some r.status, latency := some latency,
          overdueSeen := some e.overdueSeen }
      let beat : Option Beat := match e.kind with
        | .write => e.firstBeat
        | .read => some ⟨if r.status = .fault then 0 else r.data.headD 0, 0xFF⟩
      ((e.snoop = none ∨ e.kind = .read ∨ r.status = .fault) →
        exec (.dPortResponse r) s = .next (left (t.observe body beat) e')) ∧
      (∀ sn, e.kind = .write → r.status = .okay → e.snoop = some sn →
        let u := { t with freeIndex := s.freeIndex + 1 }
        exec (.dPortResponse r) s =
            .next (left (((u.observe body beat).takeDueApply).snoopOffer sn r.initiator) e') ∨
          exec (.dPortResponse r) s =
            .next (left (((u.snoopOffer sn r.initiator).takeDueApply).observe body beat) e')) ∧
      ((∀ x ∈ pre ++ post, x.key ≠ e.key) → sent e' = (pre ++ post,
        [{ kind := e.kind, initiator := r.initiator, tag := r.tag, status := r.status, data := data }]))) ∧
    (e.path = .cut →
      let e' : Entry := { e with path := .none }
      exec (.dPortResponse r) s = .next (left
        ((((entered e').raise .late).count .late).observe
          { kind := .late, access := some e.kind, initiator := some r.initiator, tag := some r.tag,
            address := some e.address, beats := some e.beats, status := some r.status, latency := some latency } none)
        e') ∧
      (∀ c, e.answer = .sent c → (∀ x ∈ pre ++ post, x.key ≠ e.key) → sent e' = (pre ++ post, [])))

/-- What the sending of a key's answers does. The READY answers up to the key's first PENDING one go out in take order. Of the
key's own entries, those up to that one are SENT, and leave the table where their path is NONE; the PENDING one and those
behind it stay as they are. No entry of another key changes, and the entries that stay keep their order. -/
def Obligations.AnswersLeaveInTakeOrder : Prop :=
  ∀ (k : Key) (t : List Entry),
    let own := t.filter fun e => e.key == k
    let run := own.takeWhile fun e => e.answer != .pending
    let u := (releaseKey k t).1
    (releaseKey k t).2 = run.filterMap (fun e => match e.answer with
      | .ready c => some { kind := e.kind, initiator := e.key.initiator, tag := e.key.tag, status := c.status,
                           data := c.data }
      | .pending => none
      | .sent _ => none) ∧
    (u.filter fun e => e.key == k) = (run.filterMap fun e =>
        if e.path = .none then none
        else match e.answer with
          | .ready c => some { e with answer := .sent c }
          | .pending => some e
          | .sent _ => some e) ++ own.drop run.length ∧
    (u.filter fun e => e.key != k) = (t.filter fun e => e.key != k) ∧
    (u.map fun e => e.id).Sublist (t.map fun e => e.id)

/-- A response of an initiator 0–14 that matches no entry is an orphan, in either mode: ORPHAN is set and counted, the ORPHAN
observation is asked for, no entry changes and nothing goes upstream. Against an abandoned count it is one too, and the count
of its key, of no other, goes down by one. In PASS mode nothing is observed; in OBSERVE mode, with the unit DISARMED and no
record open, the observation is numbered, tested and placed in the ring, unclaimed. -/
def Obligations.OrphanResponseIsReported : Prop :=
  ∀ (s : State) (r : Response), s.running → r.initiator ≠ 15 →
    let k : Key := ⟨r.initiator, r.tag⟩
    let body : ObsBody := { kind := .orphan, access := some r.kind, initiator := some r.initiator, tag := some r.tag,
                            beats := some (if r.kind = .read then r.data.length else 0), status := some r.status }
    let hits := hitSet s.config.active.watch body none
    let o : Observation := { sequence := s.observer.sequence, timestamp := s.clock.raw + s.clock.offset, body := body,
                             hits := hits, dataBeat := none }
    let orphan := fun t : State => ((t.raise .orphan).count .orphan).observe body none
    (abandonedOf s.transit.abandoned k ≠ 0 →
      exec (.dPortResponse r) s = .next (orphan { s.beginEvent with
        transit := { s.transit with
          abandoned := setAbandoned s.transit.abandoned k (abandonedOf s.transit.abandoned k - 1) } })) ∧
    (abandonedOf s.transit.abandoned k = 0 →
      (∀ e ∈ s.transit.table, e.key = k → e.downstream = .taken → e.path ≠ .issued ∧ e.path ≠ .cut) →
      exec (.dPortResponse r) s = .next (orphan s.beginEvent)) ∧
    (s.config.active.mode? = some .pass → orphan s.beginEvent = (s.beginEvent.raise .orphan).count .orphan) ∧
    (s.config.active.mode? = some .observe → s.trigger.state = .disarmed → s.store.openRecord = none →
      orphan s.beginEvent = ((({ s.beginEvent with
        observer := { ring := (⟨o, false⟩ :: s.observer.ring).take 512, sequence := s.observer.sequence + 1 }
        watchStats := hitStats s.watchStats o } : State).raise .orphan).count .orphan).count .observationsMade) ∧
    (∀ (l : List AbandonedCount) (n : Nat) (k' : Key),
      abandonedOf (setAbandoned l k n) k' = if k' = k then n else abandonedOf l k') ∧
    abandonedOf [] k = 0

/-- An expiry at the entry in a place of its key's list (log entry 17), in either mode. With its deadline reached, its answer
PENDING and the overdue-seen mark clear: OVERDUE is set and counted and the OVERDUE observation asked for, with the ticks since
the take as its latency. Under REPORT the entry is marked overdue-seen, and the observation has no status. Under CUT the answer
becomes READY with FAULT, zero data for a READ; a waiting entry is withdrawn, NOT_SENT and NONE, leaving the queue; a granted
one becomes CUT; and its key's answers leave as they may. With the answer fixed before, or the mark set, the deadline passes
without effect. That an expiry commanded before its deadline, of an entry without one, or of a place that holds no entry changes
nothing is the model's choice (log entries 2 and 17). -/
def Obligations.OverdueExpiryActs : Prop :=
  ∀ s : State, s.running →
    (∀ (e : Entry) (pre post : List Entry), s.transit.table = pre ++ e :: post → (∀ x ∈ pre ++ post, x.id ≠ e.id) →
      let expiry : Instr := .overdueExpiry e.key.initiator e.key.tag (pre.countP fun x => x.key == e.key)
      let reached := ∃ d, e.deadline = some d ∧ (d - e.takeTime).toNat ≤ (s.clock.raw - e.takeTime).toNat
      let fault : Content := { status := .fault, data := if e.kind = .read then List.replicate e.beats 0 else [] }
      let body := fun (status : Option Status) (withdrawn : Bool) =>
        ({ kind := .overdue, access := some e.kind, initiator := some e.key.initiator, tag := some e.key.tag,
           address := some e.address, beats := some e.beats, status := status,
           latency := some (min (s.clock.raw - e.takeTime).toNat (2 ^ 24 - 1)), withdrawn := some withdrawn } : ObsBody)
      let reported := fun (e' : Entry) (queue : List QueuedRequest) =>
        (({ s.beginEvent with
          transit := { s.transit with table := pre ++ e' :: post, forwardQueue := queue } } : State).raise .overdue).count
          .overdue
      let left := fun (t : State) (e' : Entry) =>
        let sent := releaseKey e.key (pre ++ e' :: post)
        ({ t with transit := { t.transit with table := sent.1 }
                  outputs := { t.outputs with upstream := sent.2 } } : State)
      let withdrawn : Entry := { e with answer := .ready fault, path := .none, downstream := .notSent }
      let cut : Entry := { e with answer := .ready fault, path := .cut }
      (reached → e.answer = .pending → e.overdueSeen = false →
        (s.config.active.overdueAction? = some .report →
          exec expiry s =
            .next ((reported { e with overdueSeen := true } s.transit.forwardQueue).observe (body none false) none)) ∧
        (s.config.active.overdueAction? = some .cut → e.downstream = .waiting →
          exec expiry s = .next (left
            ((reported withdrawn (s.transit.forwardQueue.filter fun q => q.id != e.id)).observe (body (some .fault) true)
              none) withdrawn)) ∧
        (s.config.active.overdueAction? = some .cut → e.downstream ≠ .waiting →
          exec expiry s = .next (left
            ((reported cut s.transit.forwardQueue).observe (body (some .fault) false) none) cut))) ∧
      (e.answer ≠ .pending ∨ e.overdueSeen = true ∨ ¬reached → exec expiry s = .next s.beginEvent)) ∧
    (∀ (k : Key) (age : Nat), (s.transit.table.countP fun x => x.key == k) ≤ age →
      exec (.overdueExpiry k.initiator k.tag age) s = .next s.beginEvent)

/-! ## Timed events -/

/-- Four timed events. The hold timer at the hold limit releases HOLD into the hold-expired state, with HOLD_EXPIRED set
and counted; eight ticks after the last accepted fire TRIGOUT goes low; two sync periods without a pulse while WATCHING set
SYNC_LOST and ask for a MARK of that cause; and a stage whose timer reaches its timeout gives way to stage 0, with an empty
window and no timer, counted. That each of them, commanded before its time, without a timer that runs, without a watch that is
WATCHING, or without a stage, changes nothing is the model's choice (log entry 2). -/
def Obligations.TimedEventsAct : Prop :=
  ∀ s : State, s.running →
    (∀ t, s.transit.holdTimer = some t → s.config.active.holdLimit.toNat ≤ t →
      exec .holdExpiry s = .next ((({ s.beginEvent with
        transit := { s.transit with holdTimer := none, holdExpired := true } } : State).raise .holdExpired).count
        .holdExpiries)) ∧
    (∀ t, s.transit.holdTimer = some t → t < s.config.active.holdLimit.toNat →
      exec .holdExpiry s = .next s.beginEvent) ∧
    (s.transit.holdTimer = none → exec .holdExpiry s = .next s.beginEvent) ∧
    (∀ t, s.trigger.trigout = some t → 8 ≤ t →
      exec .trigoutPulseEnd s = .next { s.beginEvent with trigger := { s.trigger with trigout := none } }) ∧
    (∀ t, s.trigger.trigout = some t → t < 8 → exec .trigoutPulseEnd s = .next s.beginEvent) ∧
    (s.trigger.trigout = none → exec .trigoutPulseEnd s = .next s.beginEvent) ∧
    (∀ p, s.clock.lossWatch = .watching → s.clock.lastPulse = some p →
      2 * s.config.active.period.toNat ≤ (s.clock.raw - p).toNat →
      exec .lossWatchExpiry s = .next
        ((({ s.beginEvent with clock := { s.clock with lossWatch := .lost } } : State).raise .syncLost).observe
          { kind := .mark, cause := some .syncLost } none)) ∧
    (∀ p, s.clock.lossWatch = .watching → s.clock.lastPulse = some p →
      (s.clock.raw - p).toNat < 2 * s.config.active.period.toNat →
      exec .lossWatchExpiry s = .next s.beginEvent) ∧
    ((s.clock.lossWatch ≠ .watching ∨ s.clock.lastPulse = none) → exec .lossWatchExpiry s = .next s.beginEvent) ∧
    (∀ a t, s.trigger.state = .armed a → a.timer = some t →
      (s.config.active.stage a.stage).timeout.toNat ≤ t →
      exec .stageTimeout s = .next (({ s.beginEvent with
        trigger := { s.trigger with state := .armed { stage := 0, outcomes := [], cumulative := 0, timer := none } }
        } : State).count .stageTimeouts)) ∧
    (∀ a t, s.trigger.state = .armed a → a.timer = some t →
      t < (s.config.active.stage a.stage).timeout.toNat → exec .stageTimeout s = .next s.beginEvent) ∧
    (∀ a, s.trigger.state = .armed a → a.timer = none → exec .stageTimeout s = .next s.beginEvent) ∧
    ((s.trigger.state = .disarmed ∨ s.trigger.state = .capturing) → exec .stageTimeout s = .next s.beginEvent)

/-- An event that asks for an observation, whatever its kind. In PASS mode, and with SELF_QUIET on for a burst wholly inside
one quiet region, nothing is made and nothing changes (a burst in ring and page but in neither alone is observed: the model's
choice, log entry 29). Else, with no record open, the observation is numbered, timed and tested, and enters the ring unclaimed
as its newest entry, and the trigger unit evaluates it. DISARMED, or at a LINE stage, or at a SLIP stage unless it is a
MARK(SLIP), the unit stays as it is. At a HITS stage the window takes its outcome, the newest W of them, or one more in the
cumulative count up to 64 for W = 0; below C the stage stays. A satisfied NEXT stage gives way to the following one; a
satisfied FIRE stage fires, with the observation as the trigger observation: refused by the store, or a record opens, and
closes at once for Q of 0. That hold follows only after that close, so that a STORE_LOW between the open and the close starts
no episode, is the model's choice (log entry 19), and so is a trigger time read in the tick of the observation's timestamp
(log entry 33). That bit n of a watch set stands for entry n is the model's reading (log entry 13). -/
def Obligations.ObservationRunsItsPath : Prop :=
  ∀ (s : State) (b : ObsBody) (beat : Option Beat),
    let p := s.config.active
    let o := s.observationOf b beat
    let made := fun state : TriggerState => ({ s with
      observer := { ring := (⟨o, false⟩ :: s.observer.ring).take 512, sequence := s.observer.sequence + 1 }
      watchStats := hitStats s.watchStats o
      trigger := { s.trigger with state := state } } : State).count .observationsMade
    (s.makesNone b → s.observe b beat = s) ∧
    (¬s.makesNone b → s.store.openRecord = none →
      (s.trigger.state = .disarmed → s.observe b beat = made .disarmed) ∧
      ∀ a : ArmedStage, s.trigger.state = .armed a →
        let d := p.stage a.stage
        let hit := (o.hits &&& d.watchSet) != 0
        let outcomes := (a.outcomes ++ [hit]).drop (a.outcomes.length + 1 - d.window.toNat)
        let window : ArmedStage :=
          if d.window = 0 then { a with cumulative := min 64 (a.cumulative + hit.toNat) }
          else { a with outcomes := outcomes }
        let hits := if d.window = 0 then min 64 (a.cumulative + hit.toNat) else outcomes.count true
        let slip := b.kind = .mark ∧ b.cause = some .slip
        let satisfied := (d.condition? = some .hits ∧ (d.window ≠ 0 → a.outcomes.length ≤ d.window.toNat) ∧
          d.count.toNat ≤ hits) ∨ (d.condition? = some .slip ∧ slip)
        (d.condition? = some .line ∨ (d.condition? = some .slip ∧ ¬slip) → s.observe b beat = made (.armed a)) ∧
        (d.condition? = some .hits → (d.window ≠ 0 → a.outcomes.length ≤ d.window.toNat) → hits < d.count.toNat →
          s.observe b beat = made (.armed window)) ∧
        (satisfied → d.action? = some .next →
          s.observe b beat = made (.armed
            { stage := a.stage + 1, outcomes := [], cumulative := 0,
              timer := if (p.stage (a.stage + 1)).timeout = 0 then none else some 0 })) ∧
        (satisfied → d.action? = some .fire → (made (.armed a)).fireGives .stage true (s.observe b beat)))

/-- An observation made while a record is open, at step 3 of its path: the record suppresses it, counted and not kept; keeps
it, one fewer due; or keeps it as its last one, where Q have been kept since the fire (or since the last retrigger under
EXTEND), or, TRUNCATED, where MAX_OBS are. It enters the ring claimed. One that did not close the record is tested as a
retrigger by the fire stage's set; one that did is not: the record joins the directory at the tail, READY, its reservation
given back, an IDLE engine takes and places the head, hold follows, and the unit enters stage 0 under REPEAT, DISARMED under
SINGLE. An open record is not ABORTED: that mark is set only at its close. The stage of a number is that place of the set's
stages, and the fire stage is the first of them, counting from 0, whose action is FIRE. That bit i of a set of initiators
stands for initiator i, and bit n of a watch set for entry n, is the model's reading (log entry 13). -/
def Obligations.OpenRecordTakesObservation : Prop :=
  (∀ (p : ParamSet) (n : Nat) (d : StageDef), p.stages[n]? = some d →
    p.stage n = d ∧
    (d.action? = some .fire → (∀ (m : Nat) (e : StageDef), m < n → p.stages[m]? = some e → e.action? ≠ some .fire) →
      p.fireStage? = some d)) ∧
  (∀ p : ParamSet, (∀ d ∈ p.stages, d.action? ≠ some .fire) → p.fireStage? = none) ∧
  ∀ (s : State) (b : ObsBody) (beat : Option Beat) (r : OpenRecord), ¬s.makesNone b →
    s.store.openRecord = some r → s.trigger.state = .capturing →
    let p := s.config.active
    let o := s.observationOf b beat
    let kept : OpenRecord := { r with observations := r.observations ++ [o], postRemaining := r.postRemaining - 1 }
    let made := fun store : RecordStore => ({ s with
      observer := { ring := (⟨o, true⟩ :: s.observer.ring).take 512, sequence := s.observer.sequence + 1 }
      watchStats := hitStats s.watchStats o
      store := store } : State).count .observationsMade
    let suppressed := o.hits = 0 ∧ ∃ i, b.initiator = some i ∧ p.suppress.getLsbD i.toNat = true
    let retriggers := ∃ d, p.fireStage? = some d ∧ d.condition? = some .hits ∧ (o.hits &&& d.watchSet) ≠ 0
    (suppressed →
      s.observe b beat = (made { s.store with
        openRecord := some { r with
          suppressed := if r.suppressed = 0xFFFFFFFF then r.suppressed else r.suppressed + 1 } }).count .suppressed) ∧
    (¬suppressed → 1 < r.postRemaining → r.observations.length + 1 ≠ p.maxObs.toNat →
      (¬retriggers → s.observe b beat = made { s.store with openRecord := some kept }) ∧
      (retriggers →
        let again : OpenRecord := { kept with nested := min (r.nested + 1) 255 }
        let struck : OpenRecord :=
          if p.retriggerMode? = some .extend then { again with postRemaining := p.postCount.toNat, extended := true }
          else again
        s.observe b beat = (made { s.store with openRecord := some struck }).count .nested)) ∧
    (¬suppressed → r.postRemaining ≤ 1 → r.aborted = false →
      s.observe b beat = (made s.store).recordClosed kept s.afterCapture) ∧
    (¬suppressed → 1 < r.postRemaining → r.observations.length + 1 = p.maxObs.toNat → r.aborted = false →
      s.observe b beat = (made s.store).recordClosed { kept with truncated := true } s.afterCapture)

/-- Where an observation is made, the statistics of each watch entry that it hits change so at step 2, and those of every other
entry stay as they were. -/
def Obligations.HitStatisticsFollowHits : Prop :=
  ∀ (s : State) (b : ObsBody) (beat : Option Beat) (n : Nat) (w : WatchStat), ¬s.makesNone b →
    s.watchStats[n]? = some w →
    (s.observe b beat).watchStats[n]? = some
      (if (hitSet s.config.active.watch b beat).getLsbD n then
        { hits := if w.hits = 0xFFFFFFFF then 0xFFFFFFFF else w.hits + 1
          lastSequence := some s.observer.sequence
          maxLatency := match b.latency, w.maxLatency with
            | none, m => m
            | some l, none => some l
            | some l, some m => some (max m l) }
       else w)

/-! ## The resets -/

/-- FULL_RESET with entries in the table cancels a pending apply and starts the quiesce; with an empty table it takes
effect at the command. A quiesce with an empty table lets it take effect on every block. A QUIESCE_COMPLETE commanded with
entries left changes nothing: that is the model's choice (log entry 2). A request still presented stays presented: the model's
reading of R1 (log entry 6). -/
def Obligations.FullResetQuiesces : Prop :=
  ∀ (s : State) (f : Frame),
    (s.takesFrame f 1 → s.transit.table ≠ [] →
      exec (.fullReset f) s = .next
        (let t := s.replied f [] .done
         { t with config := { t.config with applyPending := false }
                  transit := { t.transit with quiesceTimer := some 0 } })) ∧
    (s.takesFrame f 1 → s.transit.table = [] →
      exec (.fullReset f) s = .next ((s.replied f [] .done).afterFullReset 0)) ∧
    (s.running → s.quiescing = true → s.transit.table = [] →
      exec .quiesceComplete s = .next (s.beginEvent.afterFullReset 0)) ∧
    (s.running → s.quiescing = true → s.transit.table ≠ [] → exec .quiesceComplete s = .next s.beginEvent)

/-- At the quiesce limit with entries left, the FULL_RESET takes effect with QUIESCE_ABANDONED alone set; every unsent
answer of every key goes upstream in take order, FAULT where it was PENDING; and each key's abandoned count grows by its
entries whose memory response is still due, up to 255. A request still presented stays presented: the model's reading of R1
(log entry 6). -/
def Obligations.QuiesceAbandonAnswersEveryEntry : Prop :=
  ∀ (s : State) (n : Nat), s.running → s.transit.quiesceTimer = some n →
    s.config.active.quiesceLimit.toNat ≤ n → s.transit.table ≠ [] →
    ∃ (answers : List Response) (counts : List AbandonedCount) (k : Nat),
      exec .quiesceAbandon s = .next (let t := s.afterFullReset 0x2000
        { t with transit := { t.transit with abandoned := counts }
                 outputs := { s.outputs with upstream := answers }
                 freeIndex := s.freeIndex + k }) ∧
      (∀ key : Key, (answers.filter fun r => r.initiator == key.initiator && r.tag == key.tag) =
        (s.transit.table.filter fun e => e.key == key).filterMap fun e =>
          match e.answer with
          | .pending => some { kind := e.kind, initiator := e.key.initiator, tag := e.key.tag, status := .fault,
                               data := if e.kind = .read then List.replicate e.beats 0 else [] }
          | .ready c => some { kind := e.kind, initiator := e.key.initiator, tag := e.key.tag, status := c.status,
                               data := c.data }
          | .sent _ => none) ∧
      (∀ key : Key, abandonedOf s.transit.abandoned key ≤ 255 → abandonedOf counts key =
        min 255 (abandonedOf s.transit.abandoned key + s.transit.table.countP fun e =>
          e.key == key && (e.path == .issued || (e.path == .queued && e.downstream == .presented) ||
            (e.path == .cut && (e.downstream == .taken || e.downstream == .presented)))))

/-- POR/RSTN in any state gives every block its power-on values and holds the part; the request the interconnect presents
stays presented (log entry 6, the model's reading of R1). When the reset ends the part runs, and nothing else changes. That a
RESET_END commanded while the part is not held changes nothing is the model's choice (log entry 2). -/
def Obligations.PowerOnResetsWholePart : Prop :=
  ∀ s : State,
    exec .porRstn s = .next { State.reset with
      held := true
      transit := { State.reset.transit with upstream := s.transit.upstream }
      pending := s.pending
      freeIndex := s.freeIndex } ∧
    (s.held = true → exec .resetEnd s = .next { s with held := false }) ∧
    (s.held = false → exec .resetEnd s = .next s)

/-- CAPTURE_RESET empties the ring, the directory and the open record, leaves the unit DISARMED and TRIGOUT low, ends every
attempt but INIT with its writes stale, and ends a hold episode and the hold-expired state. Sequence, record number,
offsets and all else stay. -/
def Obligations.CaptureResetEmptiesCapture : Prop :=
  ∀ (s : State) (f : Frame), s.takesFrame f 1 →
    exec (.captureReset f) s = .next { s.replied f [] .done with
      observer := { s.observer with ring := [] }
      store := { directory := [], openRecord := none, reservation := 0, nextNumber := s.store.nextNumber }
      trigger := { s.trigger with state := .disarmed, trigout := none }
      transit := { s.transit with holdTimer := none, holdExpired := false }
      spill :=
        if s.spill.engine = .off ∨ s.spill.engine = .init ∨ s.spill.engine = .fault .initFault then s.spill
        else { s.spill with
          engine := .idle
          attempt := none
          tags := s.spill.tags.map fun g => match g with
            | .inUse u => .inUse { u with stale := true }
            | .lost => .lost
            | .free => .free } }

/-! ## The trigger unit -/

/-- What a seen TRIGIN edge does, by the TRIGIN mode and the unit's state: in mode OFF or DISARMED nothing; in STAGE mode it
satisfies a LINE stage, which gives way to the next one or fires with cause STAGE, and is ignored by a stage of another
condition; in DIRECT mode it fires an ARMED unit with cause LINE_DIRECT; while CAPTURING it is a retrigger in either mode. No
such fire has a trigger observation; the store refuses it below R free cells or with a full directory, or opens a record,
which closes at once for Q of 0; that hold follows only after that close is the model's choice (log entry 19). A rise of a
line not yet seen low for a tick is no edge; any other rise after a gap, or of a pulse, shorter than a tick either passes
without effect or is the edge (log entry 9). -/
def Obligations.TriginEdgeActsByMode : Prop :=
  ∀ s : State, s.running →
    let t := { s.beginEvent with trigger := { s.trigger with lineSeenLow := true } }
    let p := s.config.active
    let again := fun r : OpenRecord =>
      if p.retriggerMode? = some .extend then
        { r with nested := min (r.nested + 1) 255, postRemaining := p.postCount.toNat, extended := true }
      else { r with nested := min (r.nested + 1) 255 }
    (p.triginMode? = some .off ∨ s.trigger.state = .disarmed →
      exec (.triginEdge ⟨true, true⟩) s = .next t) ∧
    (∀ a, s.trigger.state = .armed a → p.triginMode? = some .stage →
      ((p.stage a.stage).condition? = some .line → (p.stage a.stage).action? = some .next →
        exec (.triginEdge ⟨true, true⟩) s = .next { t with trigger := { t.trigger with
          state := .armed { stage := a.stage + 1, outcomes := [], cumulative := 0,
                            timer := if (p.stage (a.stage + 1)).timeout = 0 then none else some 0 } } }) ∧
      ((p.stage a.stage).condition? = some .line → (p.stage a.stage).action? = some .fire →
        ∃ u, exec (.triginEdge ⟨true, true⟩) s = .next u ∧ t.fireGives .stage false u) ∧
      ((p.stage a.stage).condition? ≠ some .line → exec (.triginEdge ⟨true, true⟩) s = .next t)) ∧
    (∀ a, s.trigger.state = .armed a → p.triginMode? = some .direct →
      ∃ u, exec (.triginEdge ⟨true, true⟩) s = .next u ∧ t.fireGives .lineDirect false u) ∧
    (∀ r, s.trigger.state = .capturing → s.store.openRecord = some r →
      (p.triginMode? = some .stage ∨ p.triginMode? = some .direct) →
      exec (.triginEdge ⟨true, true⟩) s = .next
        (({ t with store := { s.store with openRecord := some (again r) } } : State).count .nested)) ∧
    (∀ l : LineRise, (l.lowTick = false ∨ l.highTick = false) →
      (s.trigger.lineSeenLow = false → l.lowTick = false → exec (.triginEdge l) s = .next s.beginEvent) ∧
      (s.trigger.lineSeenLow = true ∨ l.lowTick = true →
        exec (.triginEdge l) s = .next { t with freeIndex := s.freeIndex + 1 } ∨
          exec (.triginEdge l) s = exec (.triginEdge ⟨true, true⟩) { s with freeIndex := s.freeIndex + 1 }))

/-- ARM: a DISARMED unit in OBSERVE mode enters stage 0, in PASS mode it is REFUSED; an ARMED or CAPTURING unit runs on,
DONE. The apply that is pending and all else stay as they are. DISARM: nothing while DISARMED; an ARMED unit becomes DISARMED;
a CAPTURING one becomes DISARMED and its record closes ABORTED: it joins the directory at the tail, READY, its reservation given
back, counted as closed and as aborted; an IDLE engine takes and places the head, and hold follows. -/
def Obligations.ArmAndDisarmCommandsAct : Prop :=
  ∀ (s : State) (f : Frame), s.takesFrame f 1 →
    (s.trigger.state = .disarmed → s.config.active.mode? = some .observe →
      exec (.arm f) s = .next { s.replied f [] .done with
        trigger := { s.trigger with state := .armed { stage := 0, outcomes := [], cumulative := 0, timer := none } } }) ∧
    (s.trigger.state = .disarmed → s.config.active.mode? = some .pass →
      exec (.arm f) s = .next (s.replied f [] .refused)) ∧
    (s.trigger.state ≠ .disarmed → exec (.arm f) s = .next (s.replied f [] .done)) ∧
    (s.trigger.state = .disarmed → exec (.disarm f) s = .next (s.replied f [] .done)) ∧
    (∀ a, s.trigger.state = .armed a →
      exec (.disarm f) s = .next { s.replied f [] .done with trigger := { s.trigger with state := .disarmed } }) ∧
    (∀ r, s.trigger.state = .capturing → s.store.openRecord = some r →
      exec (.disarm f) s = .next ((s.replied f [] .done).recordClosed { r with aborted := true } .disarmed))

/-- FORCE: REFUSED while DISARMED; while CAPTURING a retrigger; while ARMED a fire with cause FORCE_PORT and no trigger
observation: refused by the store below R free cells or with a full directory, and otherwise opening a record with the next
number, whose pre part the ring's walk gives, with R cells reserved and Q observations due, hold following the store. With Q of
0 the record closes at the fire: it joins the directory at the tail, an IDLE engine takes and places the head, and the unit
enters stage 0 under REPEAT, DISARMED under SINGLE; that hold follows only after that close, so that no episode is counted for
the reservation, is the model's choice (log entry 19). -/
def Obligations.ForceCommandActs : Prop :=
  ∀ (s : State) (f : Frame), s.takesFrame f 1 →
    let p := s.config.active
    let again := fun r : OpenRecord =>
      if p.retriggerMode? = some .extend then
        { r with nested := min (r.nested + 1) 255, postRemaining := p.postCount.toNat, extended := true }
      else { r with nested := min (r.nested + 1) 255 }
    (s.trigger.state = .disarmed → exec (.force f) s = .next (s.replied f [] .refused)) ∧
    (∀ r, s.trigger.state = .capturing → s.store.openRecord = some r →
      exec (.force f) s = .next
        (({ s.replied f [] .done with store := { s.store with openRecord := some (again r) } } : State).count .nested)) ∧
    (∀ a, s.trigger.state = .armed a →
      ∃ t, exec (.force f) s = .next t ∧ (s.replied f [] .done).fireGives .forcePort false t)

/-- The pre part walk from the newest entry: it claims a run of unclaimed entries at the newest end, keeps those that are not
suppressed, in sequence order and at most the limit, counts the suppressed, and ends as soon as the limit is reached, so that
before each entry it takes fewer than the limit were kept; else at a claimed entry or at the oldest. Every other entry stays
as it was. Suppressed is an observation with an empty hit set from an initiator in the SUPPRESS mask. That bit i of a set of
initiators stands for initiator i is the model's reading (log entry 13). -/
def Obligations.PrePartWalkTakesNewestRun : Prop :=
  (∀ (p : ParamSet) (o : Observation), suppresses p o = true ↔
    o.hits = 0 ∧ ∃ i, o.body.initiator = some i ∧ p.suppress.getLsbD i.toNat = true) ∧
  ∀ (p : ParamSet) (limit : Nat) (ring : List RingEntry),
    let w := preWalk p limit ring []
    ∃ m ≤ ring.length,
      (∀ j < m, ((ring.take j).countP fun e => !suppresses p e.obs) < limit) ∧
      (∀ e ∈ ring.take m, e.claimed = false) ∧
      w.1 = ((ring.take m).map fun e => { e with claimed := true }) ++ ring.drop m ∧
      w.2.1 = (((ring.take m).map (·.obs)).filter fun o => !suppresses p o).reverse ∧
      w.2.2 = ((ring.take m).map (·.obs)).countP (suppresses p) ∧
      w.2.1.length ≤ limit ∧
      (w.2.1.length = limit ∨ m = ring.length ∨ ∃ e, ring[m]? = some e ∧ e.claimed = true)

/-! ## The management port

A frame is one event, at its end: the model's choice (log entry 11). -/

/-- READ_ACTIVE and READ_STAGED send the word of their set, most significant byte first, or zero bytes and BAD_INDEX where
the index names none. WRITE_STAGED writes one whole word of the STAGED set; it gives LOCKED and writes nothing while an
apply is pending, and BAD_INDEX where the index names no word, an apply pending or not (log entry 26). Nothing else
changes. -/
def Obligations.ConfigurationWordCommandsAct : Prop :=
  ∀ (s : State) (f : Frame) (i : BitVec 16) (w : Word), s.takesFrame f 7 →
    (∀ v, s.config.active.readWord i.toNat = some v →
      exec (.readActive f i) s = .next (s.replied f (dataBytes v) .done)) ∧
    (s.config.active.readWord i.toNat = none →
      exec (.readActive f i) s = .next (s.replied f [0, 0, 0, 0] .badIndex)) ∧
    (∀ v, s.config.staged.readWord i.toNat = some v →
      exec (.readStaged f i) s = .next (s.replied f (dataBytes v) .done)) ∧
    (s.config.staged.readWord i.toNat = none →
      exec (.readStaged f i) s = .next (s.replied f [0, 0, 0, 0] .badIndex)) ∧
    (∀ p, s.config.staged.writeWord i.toNat w = some p → s.config.applyPending = false →
      exec (.writeStaged f i w) s = .next (let t := s.replied f [] .done
        { t with config := { t.config with staged := p } })) ∧
    (∀ p, s.config.staged.writeWord i.toNat w = some p → s.config.applyPending = true →
      exec (.writeStaged f i w) s = .next (s.replied f [] .locked)) ∧
    (s.config.staged.writeWord i.toNat w = none →
      exec (.writeStaged f i w) s = .next (s.replied f [] .badIndex))

/-- A word written into a set reads back with its unassigned bits zero, and every other word reads as before; an index names a
word for reading exactly when it does for writing. And the words themselves, each with its fields by place, width and value,
zero between them: those of the set, of each watch entry and of each stage; no other index names one. A code counts a field's
values from 0 in their order. That a one-bit field is 1 for on, enabled or present is the model's reading (log entry 13). -/
def Obligations.WrittenWordReadsBack : Prop :=
  (∀ (p : ParamSet) (i : Nat) (w : Word),
    ((p.writeWord i w).isSome = (p.readWord i).isSome) ∧
    ∀ q, p.writeWord i w = some q →
      q.readWord i = some (w &&& configWordMask i) ∧ ∀ j, j ≠ i → q.readWord j = p.readWord j) ∧
  (∀ p : ParamSet, p.shaped →
    let word := fun (i : Nat) (fields : List (Nat × Nat × Nat)) => ∃ w, p.readWord i = some w ∧ hasFields w fields
    let address := fun (i : Nat) (a : Addr) => word i [(0, 32, a.toNat)] ∧ word (i + 1) [(0, 8, a.toNat / 2 ^ 32)]
    let value := fun (i : Nat) (c : Cell) => word i [(0, 32, c.toNat)] ∧ word (i + 1) [(0, 32, c.toNat / 2 ^ 32)]
    (word 0x000 [(0, 2, p.mode.toNat), (2, 2, p.overdueAction.toNat), (4, 2, p.capturePolicy.toNat),
        (6, 2, p.triginMode.toNat), (8, 2, p.repeatMode.toNat), (10, 2, p.retriggerMode.toNat),
        (12, 2, p.drainRoute.toNat), (16, 1, p.selfQuiet.toNat), (17, 1, p.trigoutEnable.toNat)] ∧
      word 0x001 [(0, 24, p.overdueLimit.toNat)] ∧ word 0x002 [(0, 24, p.holdLimit.toNat)] ∧
      word 0x003 [(0, 24, p.quiesceLimit.toNat)] ∧
      word 0x004 [(0, 8, p.preCount.toNat), (8, 10, p.postCount.toNat), (20, 11, p.maxObs.toNat)] ∧
      word 0x005 [(0, 16, p.suppress.toNat)] ∧ address 0x020 p.spillBase ∧ word 0x022 [(0, 32, p.spillSize.toNat)] ∧
      word 0x023 [(0, 1, p.protection.toNat), (8, 4, p.share.toNat)] ∧ word 0x030 [(0, 1, p.pageEnable.toNat)] ∧
      address 0x031 p.pageBase ∧ word 0x033 [(0, 15, p.permit.toNat)] ∧
      word 0x040 [(0, 2, p.syncMode.toNat), (8, 8, p.jitter.toNat)] ∧ word 0x041 [(0, 25, p.period.toNat)]) ∧
    (∀ n e, p.watch[n]? = some e →
      word (0x100 + 16 * n) [(0, 1, e.enabled.toNat), (8, 7, e.kinds.toNat), (16, 2, e.statusFilter.toNat),
        (20, 1, e.capture.toNat), (24, 1, e.hasRange.toNat), (25, 1, e.hasCompare.toNat)] ∧
      word (0x100 + 16 * n + 1) [(0, 15, e.initiators.toNat)] ∧ word (0x100 + 16 * n + 2) [(0, 24, e.floor.toNat)] ∧
      address (0x100 + 16 * n + 3) e.low ∧ address (0x100 + 16 * n + 5) e.high ∧
      value (0x100 + 16 * n + 7) e.compareValue ∧ value (0x100 + 16 * n + 9) e.compareMask) ∧
    (∀ n d, p.stages[n]? = some d →
      word (0x200 + 8 * n) [(0, 2, d.condition.toNat), (4, 2, d.action.toNat), (8, 7, d.count.toNat),
        (16, 7, d.window.toNat)] ∧
      word (0x200 + 8 * n + 1) [(0, 16, d.watchSet.toNat)] ∧
      (n ≠ 0 → word (0x200 + 8 * n + 2) [(0, 24, d.timeout.toNat)])) ∧
    ∀ i, p.readWord i = none ↔ ¬(i ≤ 0x005 ∨ 0x020 ≤ i ∧ i ≤ 0x023 ∨ 0x030 ≤ i ∧ i ≤ 0x033 ∨ i = 0x040 ∨ i = 0x041 ∨
      0x100 ≤ i ∧ i < 0x200 ∧ (i - 0x100) % 16 ≤ 10 ∨ 0x200 ≤ i ∧ i < 0x220 ∧ (i - 0x200) % 8 ≤ 2 ∧ i ≠ 0x202)) ∧
  (∀ (p : ParamSet) (e : WatchEntry) (d : StageDef),
    p.mode? = [Mode.pass, .observe][p.mode.toNat]? ∧
    p.overdueAction? = [OverdueAction.report, .cut][p.overdueAction.toNat]? ∧
    p.capturePolicy? = [CapturePolicy.skip, .hold][p.capturePolicy.toNat]? ∧
    p.triginMode? = [TriginMode.off, .stage, .direct][p.triginMode.toNat]? ∧
    p.repeatMode? = [RepeatMode.single, .repeating][p.repeatMode.toNat]? ∧
    p.retriggerMode? = [RetriggerMode.count, .extend][p.retriggerMode.toNat]? ∧
    p.drainRoute? = [DrainRoute.port, .spill][p.drainRoute.toNat]? ∧
    p.syncMode? = [SyncMode.off, .monitor, .every][p.syncMode.toNat]? ∧
    e.statusFilter? = [StatusFilter.any, .okay, .fault][e.statusFilter.toNat]? ∧
    d.condition? = [StageCondition.hits, .line, .slip][d.condition.toNat]? ∧
    d.action? = [StageAction.next, .fire][d.action.toNat]?)

/-- READ_STATUS of an index that names a word sends a word that has the word's value at every bit the manual gives, and gives
BAD_INDEX and zero bytes elsewhere; word 0x400 is read in a quiesce too. Only the number of the next free choice changes
besides. Then every word of 11.5 with its fields: 0x400–0x403, the conditions at 0x410 and 0x411, the event counters at 0x420
to 0x439, each at its number, where an event counts its own counter alone, one more up to 2^32 − 1, and changes nothing else
of the part, 0x440–0x446, 0x460–0x463, 0x470–0x479 and the watch statistics at 0x480 + 4n, where an absent statistic's value
word is zero; no other index names a word. A bit outside the fields, or in the field of an absent item, is free (log entry
10). That bit 8 + n of word 0x460 stands for tag n in use, and bit 12 + n for tag n lost, is the model's reading of 11.5's bit
ranges (log entry 13). -/
def Obligations.ReadStatusSendsWord : Prop :=
  (∀ (s : State) (f : Frame) (i : BitVec 16), i ≠ 0x470 → 7 ≤ f.bytes → s.running →
    (s.quiescing = false ∧ f.beganInQuiesce = false ∨ i = 0x400) →
    (∀ w, s.statusWord i.toNat = some w → ∃ v : Word, v &&& w.known = w.value &&& w.known ∧
      exec (.readStatus f i) s = .next { s.replied f (dataBytes v) .done with freeIndex := s.freeIndex + 1 }) ∧
    (s.statusWord i.toNat = none →
      exec (.readStatus f i) s = .next { s.replied f [0, 0, 0, 0] .badIndex with freeIndex := s.freeIndex + 1 })) ∧
  ∀ s : State, s.conditions.counters.length = 26 → s.watchStats.length = 16 →
    let snap := s.clock.snapshot
    let one := fun b : Bool => b.toNat
    (s.statusHas 0x400 [(0, 16, s.config.generation.toNat), (16, 1, one s.config.applyPending),
      (17, 1, one s.quiescing)] ∧
    s.statusHas 0x401 ((8, 1, one s.config.refusalCause.isSome) ::
      (match s.config.refusalCause with
        | some n => [(0, 4, n)]
        | none => [])) ∧
    s.statusHas 0x402 [(0, 6, s.transit.table.length), (8, 1, one s.transit.holdExpired)] ∧
    s.statusHas 0x403 (match s.transit.holdTimer with
      | some t => [(0, 24, t)]
      | none => []) ∧
    s.statusWord 0x410 = some ⟨s.conditionWord, 0x001FFF0F⟩ ∧
    s.statusWord 0x411 = some ⟨s.conditions.alertEnable, 0x001FFF0F⟩ ∧
    (∀ q ∈ [(0x420, Counter.observationsMade), (0x421, .suppressed), (0x422, .declinedInitiator),
        (0x423, .declinedBoundary), (0x424, .declinedWindow), (0x425, .overdue), (0x426, .late), (0x427, .orphan),
        (0x428, .fires), (0x429, .refused), (0x42A, .nested), (0x42B, .stageTimeouts), (0x42C, .recordsClosed),
        (0x42D, .truncated), (0x42E, .aborted), (0x42F, .spilled), (0x430, .skipped), (0x431, .discarded),
        (0x432, .holdEpisodes), (0x433, .holdExpiries), (0x434, .controlInterpreted), (0x435, .controlUnpermitted),
        (0x436, .controlMalformed), (0x437, .consumerMalformed), (0x438, .syncPulses), (0x439, .syncSlips)],
      s.statusWord q.1 = some ⟨s.counter q.2, BitVec.allOnes 32⟩) ∧
    (∀ (c d : Counter) (n : Nat),
      s.count c = { s with conditions := { s.conditions with counters := (s.count c).conditions.counters } } ∧
      s.countBy c n = { s with conditions := { s.conditions with counters := (s.countBy c n).conditions.counters } } ∧
      (s.count c).conditions.counters.length = 26 ∧ (s.countBy c n).conditions.counters.length = 26 ∧
      (satAdd (s.counter c) n).toNat = min (2 ^ 32 - 1) ((s.counter c).toNat + n) ∧
      (s.count c).counter d = (if d ≠ c ∨ s.counter c = 0xFFFFFFFF then s.counter d else s.counter d + 1) ∧
      ((s.countBy c n).counter d).toNat =
        if d = c then min (2 ^ 32 - 1) ((s.counter c).toNat + n) else (s.counter d).toNat)) ∧
    (s.statusHas 0x440 (match s.trigger.state with
      | .disarmed => [(0, 2, 0)]
      | .armed a => [(0, 2, 1), (4, 2, a.stage)] ++
          (if (s.config.active.stage a.stage).condition? = some .hits then
            [(8, 7, if (s.config.active.stage a.stage).window = 0 then a.cumulative else a.outcomes.count true)]
          else [])
      | .capturing => [(0, 2, 2)]) ∧
    s.statusHas 0x441 [(0, 15, s.freeCells), (16, 9, s.store.directory.length)] ∧
    s.statusHas 0x442 (match s.store.directory with
      | h :: _ => [(0, 32, h.number.toNat)]
      | [] => []) ∧
    s.statusHas 0x443 (match s.store.directory with
      | h :: _ => [(0, 13, h.cells.length), (16, 1, if h.state = .spilling then 1 else 0), (24, 1, 1)]
      | [] => [(24, 1, 0)]) ∧
    s.statusHas 0x444 [(0, 32, s.store.nextNumber.toNat)] ∧
    s.statusHas 0x445 (match s.store.openRecord with
      | some r => [(0, 11, r.observations.length), (12, 8, r.nested), (24, 1, 1)]
      | none => [(24, 1, 0)]) ∧
    s.statusHas 0x446 (match s.store.openRecord with
      | some r => [(0, 32, r.number.toNat)]
      | none => [])) ∧
    (s.spill.tags.length = 4 →
      s.statusHas 0x460 ((match s.spill.engine with
        | .off => [(0, 3, 0), (6, 1, 0)]
        | .init => [(0, 3, 1), (6, 1, 0)]
        | .idle => [(0, 3, 2), (6, 1, 0)]
        | .waitSpace => [(0, 3, 3), (6, 1, 0)]
        | .writing => [(0, 3, 4), (6, 1, 0)]
        | .publish => [(0, 3, 5), (6, 1, 0)]
        | .fault .writeFault => [(0, 3, 6), (4, 2, 0), (6, 1, 1)]
        | .fault .publishFault => [(0, 3, 6), (4, 2, 1), (6, 1, 1)]
        | .fault .initFault => [(0, 3, 6), (4, 2, 2), (6, 1, 1)]
        | .fault .oversize => [(0, 3, 6), (4, 2, 3), (6, 1, 1)]) ++
        s.spill.tags.zipIdx.flatMap fun g => match g.1 with
          | .free => [(8 + g.2, 1, 0), (12 + g.2, 1, 0)]
          | .inUse _ => [(8 + g.2, 1, 1), (12 + g.2, 1, 0)]
          | .lost => [(8 + g.2, 1, 0), (12 + g.2, 1, 1)])) ∧
    (s.statusHas 0x461 [(0, 32, s.spill.producer)] ∧ s.statusHas 0x462 [(0, 32, s.spill.wrapCount.toNat)] ∧
    s.statusHas 0x463 [(0, 32, s.spill.consumer)]) ∧
    (s.statusHas 0x470 [(0, 32, snap.raw.toNat)] ∧ s.statusHas 0x471 [(0, 16, snap.raw.toNat / 2 ^ 32)] ∧
    s.statusHas 0x472 [(0, 32, snap.aligned.toNat)] ∧ s.statusHas 0x473 [(0, 16, snap.aligned.toNat / 2 ^ 32)] ∧
    s.statusHas 0x474 [(0, 32, snap.offset.toNat)] ∧ s.statusHas 0x475 [(0, 16, snap.offset.toNat / 2 ^ 32)] ∧
    s.statusHas 0x476 [(0, 16, snap.epoch.toNat), (16, 2, s.config.active.syncMode.toNat), (20, 1, one s.clock.once),
      (24, 2, match s.clock.lossWatch with
        | .idle => 0
        | .watching => 1
        | .lost => 2)] ∧
    s.statusHas 0x477 (match s.clock.lastPulse with
      | some t => [(0, 32, t.toNat)]
      | none => []) ∧
    s.statusHas 0x478 (match s.clock.lastPulse with
      | some t => [(0, 16, t.toNat / 2 ^ 32), (31, 1, 1)]
      | none => [(31, 1, 0)]) ∧
    s.statusHas 0x479 (match s.clock.lastPhase with
      | some d => [(0, 32, (d % 2 ^ 32).toNat)]
      | none => [])) ∧
    (∀ (n : Nat) (w : WatchStat), s.watchStats[n]? = some w →
      s.statusHas (0x480 + 4 * n) [(0, 32, w.hits.toNat)] ∧
      s.statusHas (0x480 + 4 * n + 1) [(0, 32, match w.lastSequence with
        | some q => q.toNat
        | none => 0)] ∧
      s.statusHas (0x480 + 4 * n + 2) (match w.maxLatency with
        | some l => [(0, 24, l)]
        | none => [(0, 32, 0)]) ∧
      s.statusHas (0x480 + 4 * n + 3) [(0, 1, one w.lastSequence.isSome), (1, 1, one w.maxLatency.isSome)]) ∧
    ∀ i : Nat, s.statusWord i = none ↔ ¬(0x400 ≤ i ∧ i ≤ 0x403 ∨ i = 0x410 ∨ i = 0x411 ∨ 0x420 ≤ i ∧ i ≤ 0x439 ∨
      0x440 ≤ i ∧ i ≤ 0x446 ∨ 0x460 ≤ i ∧ i ≤ 0x463 ∨ 0x470 ≤ i ∧ i ≤ 0x479 ∨ 0x480 ≤ i ∧ i ≤ 0x4BF)

/-- APPLY: the first failed check refuses it and becomes the refusal cause; with every check passed it becomes pending while a
record is open or the engine must be waited for, and takes effect at the command where nothing stands against it (log entry
4); a further APPLY while one is pending does nothing and gives DONE. The engine is waited for in WRITING, PUBLISH and INIT,
by a set that differs in drain route, spill base or spill size. A pending apply with nothing against it is due. -/
def Obligations.ApplyIsChecked : Prop :=
  (∀ s : State, s.applyWaitsOnSpill = true ↔
    (s.spill.engine = .writing ∨ s.spill.engine = .publish ∨ s.spill.engine = .init) ∧
      (s.config.staged.drainRoute ≠ s.config.active.drainRoute ∨
        s.config.staged.spillBase ≠ s.config.active.spillBase ∨
        s.config.staged.spillSize ≠ s.config.active.spillSize)) ∧
  (∀ s : State, (s.capturing = true ↔ s.trigger.state = .capturing) ∧
    (s.applyDue = true ↔ s.config.applyPending = true ∧ s.capturing = false ∧ s.applyWaitsOnSpill = false)) ∧
  ∀ (s : State) (f : Frame), s.takesFrame f 1 →
    (∀ n, s.config.applyPending = false → s.config.staged.firstFailed = some n →
      exec (.apply f) s = .next (let t := s.replied f [] .refused
        { t with config := { t.config with refusalCause := some n } })) ∧
    (s.config.applyPending = false → s.config.staged.firstFailed = none →
      (s.capturing = true ∨ s.applyWaitsOnSpill = true) →
      exec (.apply f) s = .next (let t := s.replied f [] .done
        { t with config := { t.config with refusalCause := none, applyPending := true } })) ∧
    (∀ t, s.config.applyPending = false → s.config.staged.firstFailed = none →
      s.capturing = false → s.applyWaitsOnSpill = false →
      exec .applyTakesEffect { s with config := { s.config with refusalCause := none, applyPending := true } } = .next t →
      exec (.apply f) s = .next (t.replied f [] .done)) ∧
    (s.config.applyPending = true → exec (.apply f) s = .next (s.replied f [] .done))

/-- The ten checks of the APPLY table by their numbers. A set passes exactly when each of them holds of it; else the first
failed check is the one that fails while every check before it holds. A ring is valid exactly where its size, base and end are
those that check 5 asks of a nonzero size. -/
def Obligations.SetPassesEveryCheck : Prop :=
  ∀ p : ParamSet,
    let ring := (∃ k, 14 ≤ k ∧ k ≤ 30 ∧ p.spillSize.toNat = 2 ^ k) ∧ 4096 ∣ p.spillBase.toNat ∧
      p.spillBase.toNat + p.spillSize.toNat ≤ 2 ^ 40
    let check : Nat → Prop := fun n => match n with
      | 1 => 1 ≤ p.maxObs.toNat ∧ p.maxObs.toNat ≤ 1024 ∧ p.preCount.toNat + p.postCount.toNat + 1 ≤ p.maxObs.toNat
      | 2 => ∀ e ∈ p.watch, e.hasRange = true → e.low.toNat ≤ e.high.toNat
      | 3 => ∀ d ∈ p.stages, d.condition? = some .hits →
          1 ≤ d.count.toNat ∧ d.count.toNat ≤ 64 ∧ d.window.toNat ≤ 64 ∧
            (0 < d.window.toNat → d.count.toNat ≤ d.window.toNat)
      | 4 => (p.stage 3).action? = some .fire
      | 5 => p.spillSize = 0 ∨ ring
      | 6 => p.pageEnable = true →
          64 ∣ p.pageBase.toNat ∧ p.pageBase.toNat + 64 ≤ 2 ^ 40 ∧
            (p.spillSize = 0 ∨ ∀ a, p.pageBase.toNat ≤ a → a < p.pageBase.toNat + 64 →
              ¬(p.spillBase.toNat ≤ a ∧ a < p.spillBase.toNat + p.spillSize.toNat))
      | 7 => 64 ≤ p.period.toNat ∧ p.period.toNat ≤ 2 ^ 24 ∧ p.jitter.toNat ≤ 255
      | 8 => 1 ≤ p.share.toNat ∧ p.share.toNat ≤ 15
      | 9 => 1 ≤ p.holdLimit.toNat ∧ 1 ≤ p.quiesceLimit.toNat
      | 10 => p.mode.toNat < 2 ∧ p.overdueAction.toNat < 2 ∧ p.capturePolicy.toNat < 2 ∧ p.triginMode.toNat < 3 ∧
          p.repeatMode.toNat < 2 ∧ p.retriggerMode.toNat < 2 ∧ p.drainRoute.toNat < 2 ∧ p.syncMode.toNat < 3 ∧
          (∀ e ∈ p.watch, e.statusFilter.toNat < 3) ∧ ∀ d ∈ p.stages, d.condition.toNat < 3 ∧ d.action.toNat < 2
      | _ => True
    (p.firstFailed = none ↔ ∀ n, check n) ∧
    (∀ n, p.firstFailed = some n ↔ ¬check n ∧ ∀ m < n, check m) ∧
    (p.ringValid = true ↔ ring)

/-- A due apply takes effect: STAGED becomes ACTIVE under the next generation, every ring entry is claimed, an ARMED unit goes
to stage 0 or, under PASS, to DISARMED, the engine follows a change of route or ring, the loss watch a mode OFF, the apply is
no longer pending and APPLY_DONE is set. Hold follows the new set, and an episode then at or past the new hold limit expires,
set and counted. That stale writes are held as body writes from a new INIT on is the model's coding of R131 (log entry 20),
and that the loss watch stays WATCHING where a shorter SP has already run out, its expiry an event of its own that is due at
once, is the model's reading of R144 (log entry 18). That an apply which both ends HOLD and sets a limit at or below the
running timer ends the episode with no expiry is the model's choice between R26 and R27 (log entry 32). That an episode which
starts at the apply is counted, and one which expires there sets HOLD_EXPIRED and is counted, is the model's choice of R26 and
R27 where R155 and R179 leave the counters and the other sticky conditions unchanged (log entry 35). -/
def Obligations.ApplyTakesEffectWhole : Prop :=
  ∀ s : State, s.held = false → s.config.applyPending = true → s.capturing = false → s.applyWaitsOnSpill = false →
    let p := s.config.staged
    let t := ({ s with
      config := { s.config with active := p, generation := s.config.generation + 1, applyPending := false }
      observer := { s.observer with ring := s.observer.ring.map fun e => { e with claimed := true } }
      trigger := { s.trigger with
        state := match s.trigger.state with
          | .armed _ =>
            if p.mode? = some .observe then
              .armed { stage := 0, outcomes := [], cumulative := 0, timer := none }
            else .disarmed
          | .disarmed => .disarmed
          | .capturing => .capturing }
      spill :=
        if p.drainRoute = s.config.active.drainRoute ∧ p.spillBase = s.config.active.spillBase ∧
            p.spillSize = s.config.active.spillSize then s.spill
        else if p.drainRoute? = some .spill ∧ p.ringValid = true then
          { s.spill with
            engine := .init, producer := 0, wrapCount := 0, consumer := 0
            attempt := some { kind := .init, recordOffset := none, markerOffset := none,
                              writes := [⟨p.spillBase.toNat, [descriptorWord p.area]⟩,
                                         ⟨p.spillBase.toNat + 8, [producerWord 0 0]⟩],
                              unacknowledged := 2, publish := none, newProducer := 0, newWrap := 0 }
            tags := s.spill.tags.map fun g => match g with
              | .inUse u => .inUse (if u.stale then { u with role := .body } else u)
              | .lost => .lost
              | .free => .free }
        else { s.spill with engine := .off, attempt := none }
      clock := { s.clock with lossWatch := if p.syncMode? = some .off then .idle else s.clock.lossWatch } } :
      State).followHold
    let u := match t.transit.holdTimer with
      | some n =>
        if p.holdLimit.toNat ≤ n then
          (({ t with transit := { t.transit with holdTimer := none, holdExpired := true } } : State).raise
            .holdExpired).count .holdExpiries
        else t
      | none => t
    exec .applyTakesEffect s = .next s.beginEvent.takeDueApply ∧ s.takeDueApply = u.raise .applyDone

/-- ALIGN_ONCE arms ONCE; CLEAR_COUNTERS sets every counter to 0 and clears the watch statistics, and no condition; both need
one byte. WRITE_ALERT_ENABLE replaces the mask; READ_STATUS of the low word of raw time takes the snapshot of raw time,
aligned time, offset and epoch at one moment and sends its low word; both need seven. Each is DONE, and nothing else
changes. -/
def Obligations.RegisterCommandsAct : Prop :=
  ∀ (s : State) (f : Frame) (m : Word),
    (s.takesFrame f 1 →
      exec (.alignOnce f) s = .next { s.replied f [] .done with clock := { s.clock with once := true } } ∧
      exec (.clearCounters f) s = .next { s.replied f [] .done with
        conditions := { s.conditions with counters := List.replicate 26 0 }
        watchStats := List.replicate 16 { hits := 0, lastSequence := none, maxLatency := none } }) ∧
    (s.takesFrame f 7 →
      exec (.writeAlertEnable f m) s = .next { s.replied f [] .done with
        conditions := { s.conditions with alertEnable := m } } ∧
      exec (.rawTimeSnapshot f) s = .next { s.replied f (dataBytes (s.clock.raw.extractLsb' 0 32)) .done with
        freeIndex := s.freeIndex + 1
        clock := { s.clock with snapshot := { raw := s.clock.raw, aligned := s.clock.raw + s.clock.offset,
                                              offset := s.clock.offset, epoch := s.clock.epoch } } })

/-- ACK_CONDITIONS: a sticky condition whose bit is set becomes clear or stays clear, one whose bit is clear keeps its
state, and no counter nor anything else changes; in a full-reset quiesce it is BUSY and clears nothing. A condition set
after it is set. -/
def Obligations.AckConditionsClearsNamed : Prop :=
  ∀ (s : State) (f : Frame) (m : Word),
    (s.takesFrame f 7 → ∃ sticky : Word,
      exec (.ackConditions f m) s = .next { s.replied f [] .done with
        conditions := { s.conditions with sticky := sticky } } ∧
      ∀ k : Sticky, sticky.getLsbD k.bit = (s.isSet k && !m.getLsbD k.bit)) ∧
    (s.running → s.quiescing = true → 7 ≤ f.bytes → exec (.ackConditions f m) s = .next (s.replied f [] .busy)) ∧
    ∀ k : Sticky, (s.raise k).isSet k = true

/-- The condition word and the lines that follow it. Bits 0–3 are RECORD_READY, STORE_LOW, HOLDING and SPILL_WAIT, and bits
8–20 the sticky conditions, each at its number; what sets one sets that bit and nothing else. STORE_LOW holds while the free
cells, 16384 less the directory's cells and the reservation, are below R, or the directory is full. ALERT is high exactly
while some condition whose enable bit is set is itself set, and BUSY exactly while the unit is CAPTURING or STORE_LOW holds;
both are low while the part is held in reset. TRIGOUT is high exactly while its pulse runs. -/
def Obligations.LinesFollowConditions : Prop :=
  ∀ s : State,
    let free := 16384 - (s.store.directory.map fun e => e.cells.length).sum - s.store.reservation
    let low := free < s.config.active.reservation ∨ 256 ≤ s.store.directory.length
    s.freeCells = free ∧ (s.storeLow = true ↔ low) ∧
    (s.conditionWord.getLsbD 0 = true ↔ s.store.directory ≠ []) ∧
    (s.conditionWord.getLsbD 1 = true ↔ low) ∧
    (s.conditionWord.getLsbD 2 = true ↔ s.transit.holdTimer ≠ none) ∧
    (s.conditionWord.getLsbD 3 = true ↔ s.spill.engine = .waitSpace) ∧
    (∀ q ∈ [(8, Sticky.tableFull), (9, .orphan), (10, .overdue), (11, .late), (12, .holdExpired),
        (13, .quiesceAbandoned), (14, .fireRefused), (15, .spillFault), (16, .badConsumer), (17, .badControl),
        (18, .syncSlip), (19, .syncLost), (20, .applyDone)],
      q.2.bit = q.1 ∧ s.conditionWord.getLsbD q.1 = s.isSet q.2 ∧
      s.raise q.2 = { s with conditions := { s.conditions with
        sticky := s.conditions.sticky ||| BitVec.ofNat 32 (2 ^ q.1) } }) ∧
    (s.alert = true ↔ s.held = false ∧ ∃ b, (b ≤ 3 ∨ 8 ≤ b ∧ b ≤ 20) ∧
      s.conditionWord.getLsbD b = true ∧ s.conditions.alertEnable.getLsbD b = true) ∧
    (s.busy = true ↔ s.held = false ∧ (s.trigger.state = .capturing ∨ low)) ∧
    (s.trigoutHigh = true ↔ s.trigger.trigout ≠ none)

/-- READ_RECORD under route PORT sends the head's cells from the offset, byte 0 of each first and zero bytes after the
last; an offset past the end gives BAD_INDEX, an empty directory or route SPILL gives REFUSED, and zero bytes. The record's
leaving during its stream gives zero bytes for the cells not yet sent, and REFUSED; that the stream turns to zero at a cell's
boundary, and REFUSED at an offset past the end too, are the model's choice (log entry 12). Nothing of the store changes. -/
def Obligations.ReadRecordStreamsHead : Prop :=
  ∀ (s : State) (f : Frame) (offset : BitVec 16), s.takesFrame f 3 →
    (∀ h rest, s.store.directory = h :: rest → s.config.active.drainRoute? = some .port →
      (offset.toNat < h.cells.length →
        exec (.readRecord f offset none) s =
          .next (s.replied f ((h.cells.drop offset.toNat).flatMap cellBytes) .done)) ∧
      (h.cells.length ≤ offset.toNat →
        exec (.readRecord f offset none) s = .next (s.replied f [] .badIndex)) ∧
      (∀ k, exec (.readRecord f offset (some k)) s =
        .next (s.replied f (((h.cells.drop offset.toNat).take k).flatMap cellBytes) .refused))) ∧
    ((s.store.directory = [] ∨ s.config.active.drainRoute? = some .spill) →
      exec (.readRecord f offset none) s = .next (s.replied f [] .refused))

/-- DISCARD_HEAD under route PORT removes the head, gives its cells back and counts, whatever the head's state, and hold
follows the freed store; with an empty directory or route SPILL it has no effect and is REFUSED. -/
def Obligations.DiscardHeadRemovesHead : Prop :=
  ∀ (s : State) (f : Frame), s.takesFrame f 1 →
    (∀ h rest, s.store.directory = h :: rest → s.config.active.drainRoute? = some .port →
      exec (.discardHead f) s = .next
        (({ s.replied f [] .done with store := { s.store with directory := rest } } : State).followHold.count .discarded)) ∧
    ((s.store.directory = [] ∨ s.config.active.drainRoute? = some .spill) →
      exec (.discardHead f) s = .next (s.replied f [] .refused))

/-- SPILL_RESUME: after INIT_FAULT a new INIT attempt begins; after another fault the head is placed again and the engine
goes to the outcome, with the whole record to be written again; in any other state it is REFUSED. -/
def Obligations.SpillResumeActs : Prop :=
  ∀ (s : State) (f : Frame), s.takesFrame f 1 →
    let p := s.config.active
    (s.spill.engine = .fault .initFault →
      exec (.spillResume f) s = .next { s.replied f [] .done with spill := { s.spill with
        engine := .init
        attempt := some { kind := .init, recordOffset := none, markerOffset := none,
                          writes := [⟨p.spillBase.toNat, [descriptorWord p.area]⟩,
                                     ⟨p.spillBase.toNat + 8, [producerWord 0 0]⟩],
                          unacknowledged := 2, publish := none, newProducer := 0, newWrap := 0 } } }) ∧
    (∀ c h rest, s.spill.engine = .fault c → c ≠ .initFault → s.store.directory = h :: rest →
      let outcome := placement p.area s.spill.producer
        (ringFree p.area s.spill.producer s.spill.consumer) h.cells.length s.spill.wrapCount
      (outcome = .noRoom →
        exec (.spillResume f) s = .next { s.replied f [] .done with
          spill := { s.spill with engine := .waitSpace, attempt := none } }) ∧
      (outcome = .oversize →
        exec (.spillResume f) s = .next (({ s.replied f [] .done with
          spill := { s.spill with engine := .fault .oversize, attempt := none } } : State).raise .spillFault)) ∧
      (∀ m w, outcome = .loneWrap m w →
        exec (.spillResume f) s = .next { s.replied f [] .done with spill := { s.spill with
          engine := .writing
          attempt := some { kind := .loneWrap, recordOffset := none, markerOffset := some m,
                            writes := [⟨p.spillBase.toNat + 64 + m, [wrapMarker]⟩], unacknowledged := 1,
                            publish := some ⟨p.spillBase.toNat + 8, [producerWord 0 w]⟩,
                            newProducer := 0, newWrap := w } } }) ∧
      (∀ m o np w, outcome = .record m o np w →
        exec (.spillResume f) s = .next { s.replied f [] .done with
          store := { s.store with directory := { h with state := .spilling } :: rest }
          spill := { s.spill with engine := .writing, attempt := some (recordAttempt p h.cells m o np w) } })) ∧
    ((∀ c, s.spill.engine ≠ .fault c) → exec (.spillResume f) s = .next (s.replied f [] .refused))

/-- SPILL_SKIP after a fault other than INIT_FAULT removes the head unspilled, counts it, with hold following the freed store,
and leaves the engine IDLE when no record is left; a new head is taken and placed within the command, unless a stale publish
is in use. In any other state it is REFUSED. -/
def Obligations.SpillSkipRemovesHead : Prop :=
  ∀ (s : State) (f : Frame), s.takesFrame f 1 →
    (∀ c h rest, s.spill.engine = .fault c → c ≠ .initFault → s.store.directory = h :: rest →
      let t := ({ s.replied f [] .done with store := { s.store with directory := rest } } : State).followHold.count .skipped
      let idle := { t with spill := { t.spill with engine := .idle, attempt := none } }
      (rest = [] ∨ s.stalePublishInUse → exec (.spillSkip f) s = .next idle) ∧
      (∀ h' rest', rest = h' :: rest' → ¬s.stalePublishInUse →
        exec (.spillSkip f) s = .next (idle.headPlaced h' rest'))) ∧
    (((∀ c, s.spill.engine ≠ .fault c) ∨ s.spill.engine = .fault .initFault) →
      exec (.spillSkip f) s = .next (s.replied f [] .refused))

/-- A frame with a complete command byte but fewer bytes than its command needs is REFUSED, and so is an unknown command
byte; nothing but the result register and the lines out changes. Stated for every command that reads no word; a short
read command's result is stated apart. -/
def Obligations.ShortAndUnknownFramesRefused : Prop :=
  ∀ (s : State) (f : Frame) (i : Instr) (bytes : List Byte), s.takesFrame f 1 → i.frameParts = some (f, bytes) →
    (readsWord i = false → f.bytes < leastFrameBytes i → exec i s = .next (s.replied f [] .refused)) ∧
    (readsWord i = true → f.bytes < leastFrameBytes i →
      ∃ t, exec i s = .next t ∧ t.config = { s.config with result := .refused }) ∧
    (∀ b, i = .unknownCommandByte f b → exec i s = .next (s.replied f [] .refused))

/-- A frame with a complete command byte that began in a quiesce, or that ends in one, is BUSY and has no effect, but for a
READ_STATUS of word 0x400; a frame with no complete command byte leaves even the result register (log entry 14: BUSY is
judged before the frame's length and its command byte). -/
def Obligations.BusyFramesHaveNoEffect : Prop :=
  ∀ (s : State) (f : Frame) (i : Instr) (bytes : List Byte), s.running → i.frameParts = some (f, bytes) →
    (1 ≤ f.bytes → (f.beganInQuiesce = true ∨ s.quiescing = true) → i ≠ .readStatus f 0x400 →
      exec i s = .next (s.replied f [] .busy)) ∧
    (f.bytes = 0 → exec i s = .next { s with outputs := { upstream := [], mdo := [] } })

/-- The bytes of a management command's frame, at any length that holds the bytes the command uses, read back as the
command. And the bytes themselves: the command byte of 11.3, the word index and the data or mask, most significant byte first;
the codes of the results; and how bytes fill a frame, cut or followed by zeros. -/
def Obligations.FramesReadBack : Prop :=
  (∀ (f : Frame) (i : BitVec 16) (w : Word) (left : Option Nat),
    let index : List Byte := [BitVec.ofNat 8 (i.toNat / 256), BitVec.ofNat 8 i.toNat]
    let data : List Byte := [BitVec.ofNat 8 (w.toNat / 2 ^ 24), BitVec.ofNat 8 (w.toNat / 2 ^ 16),
      BitVec.ofNat 8 (w.toNat / 2 ^ 8), BitVec.ofNat 8 w.toNat]
    dataBytes w = data ∧
    (Instr.readActive f i).frameParts = some (f, 0x01 :: index) ∧
    (Instr.readStaged f i).frameParts = some (f, 0x02 :: index) ∧
    (Instr.writeStaged f i w).frameParts = some (f, 0x03 :: (index ++ data)) ∧
    (Instr.readStatus f i).frameParts = some (f, 0x04 :: index) ∧
    (Instr.rawTimeSnapshot f).frameParts = some (f, [0x04, 0x04, 0x70]) ∧
    (Instr.ackConditions f w).frameParts = some (f, 0x41 :: ([0, 0] ++ data)) ∧
    (Instr.writeAlertEnable f w).frameParts = some (f, 0x42 :: ([0, 0] ++ data)) ∧
    (Instr.readRecord f i left).frameParts = some (f, 0x50 :: index) ∧
    (∀ b, (Instr.unknownCommandByte f b).frameParts = some (f, [b])) ∧
    (∀ q ∈ [(Instr.apply f, (0x10 : Byte)), (.arm f, 0x20), (.disarm f, 0x21), (.force f, 0x22), (.alignOnce f, 0x30),
        (.clearCounters f, 0x40), (.discardHead f, 0x51), (.spillResume f, 0x60), (.spillSkip f, 0x61),
        (.captureReset f, 0x70), (.fullReset f, 0x7F)],
      q.1.frameParts = some (f, [q.2]))) ∧
  (∀ q ∈ [(Result.done, (0x00 : Byte)), (.refused, 0x01), (.badIndex, 0x02), (.busy, 0x03), (.locked, 0x04)],
    q.1.byte = q.2) ∧
  (∀ (n : Nat) (bytes : List Byte), (fitBytes n bytes).length = n ∧
    ∀ k < n, (fitBytes n bytes)[k]? = some (bytes.getD k 0)) ∧
  ∀ (i : Instr) (f : Frame) (used : List Byte), i.wellFormed = true → i.frameParts = some (f, used) →
    used.length ≤ f.bytes → decodeFrame (fitBytes f.bytes used) f.beganInQuiesce i.leftAfter? = some i

/-! ## The watch table, the formats and the ring in memory -/

/-- The six tests of a watch entry, and the hit set. Kind: the kind's bit of the kind set. Address: no range passes all; a
range passes the bursts with a byte in it, and no observation without an address. Initiator: a MARK passes every mask and
initiator 15 none. Status: the filters ANY, OKAY and FAULT. Latency: a floor of 0 passes all, a nonzero floor the latencies at
or above it and no observation without one, and a saturated latency passes every floor. Data: no compare passes all; a compare
passes the beats that, with the bytes outside their mask taken as zero, have the compare value's bits at the mask's bits, and
no observation without a beat. An entry's bit of the hit set is set exactly when it is enabled and passes all six. That bit i
of a set of initiators stands for initiator i is the model's reading (log entry 13). -/
def Obligations.WatchTestsDecide : Prop :=
  (∀ (e : WatchEntry) (b : ObsBody),
    (e.kindTest b = e.kinds.getLsbD (match b.kind with
      | .read => 0 | .write => 1 | .declined => 2 | .overdue => 3 | .late => 4 | .orphan => 5 | .mark => 6)) ∧
    (e.hasRange = false → e.addressTest b = true) ∧
    (e.hasRange = true → b.address = none → e.addressTest b = false) ∧
    (e.hasRange = true → ∀ a n, b.address = some a → b.beats = some n →
      (e.addressTest b = true ↔ ∃ x : Nat, a.toNat ≤ x ∧ x < a.toNat + 8 * n ∧ e.low.toNat ≤ x ∧ x ≤ e.high.toNat)) ∧
    (b.initiator = none → e.initiatorTest b = true) ∧
    (∀ i, b.initiator = some i → i ≠ 15 → e.initiatorTest b = e.initiators.getLsbD i.toNat) ∧
    (b.initiator = some 15 → e.initiatorTest b = false) ∧
    (e.statusFilter? = some .any → e.statusTest b = true) ∧
    (e.statusFilter? = some .okay → (e.statusTest b = true ↔ b.status = some .okay)) ∧
    (e.statusFilter? = some .fault → (e.statusTest b = true ↔ b.status = some .fault)) ∧
    (e.floor = 0 → e.latencyTest b = true) ∧
    (e.floor ≠ 0 → ∀ l, b.latency = some l → (e.latencyTest b = true ↔ e.floor.toNat ≤ l)) ∧
    (e.floor ≠ 0 → b.latency = none → e.latencyTest b = false) ∧
    (b.latency = some (2 ^ 24 - 1) → e.latencyTest b = true)) ∧
  (∀ e : WatchEntry,
    (e.hasCompare = false → ∀ beat, e.dataTest beat = true) ∧
    (e.hasCompare = true → e.dataTest none = false) ∧
    (e.hasCompare = true → ∀ beat : Beat, (e.dataTest (some beat) = true ↔
      ∀ k < 64, e.compareMask.getLsbD k = true →
        (beat.mask.getLsbD (k / 8) && beat.value.getLsbD k) = e.compareValue.getLsbD k))) ∧
  ∀ (entries : List WatchEntry) (b : ObsBody) (beat : Option Beat) (n : Nat), n < 16 →
    ((hitSet entries b beat).getLsbD n = true ↔ ∃ e, entries[n]? = some e ∧ e.enabled = true ∧ e.kindTest b = true ∧
      e.addressTest b = true ∧ e.initiatorTest b = true ∧ e.statusTest b = true ∧ e.latencyTest b = true ∧
      e.dataTest beat = true)

/-- A closed record, its size and its cells. It has 5 + 3N + D cells, and with at most MAX_OBS observations, and no data beat
while d is 0, it fits in the reservation R = 5 + MAX_OBS × (3 + d). Its cells are four header cells, each observation's three
with its data cell, and the trailer with the CRC-32 over the bytes of every cell before it, byte 0 of each first; each cell has
its fields by place, width and value, and zero between them. So have the descriptor, the producer word and the wrap marker. -/
def Obligations.RecordFitsReservation : Prop :=
  (∀ (r : OpenRecord) (p : ParamSet),
    let beats := r.observations.countP fun o => o.dataBeat.isSome
    let length := 5 + 3 * r.observations.length + beats
    let d := if p.watch.any (fun e => e.enabled && e.capture) then 1 else 0
    let cause := match r.cause with
      | .stage => 0
      | .lineDirect => 1
      | .forcePort => 2
      | .forceWord => 3
    let first := r.observations.head?.map fun o => o.sequence.toNat
    r.dataBeats = beats ∧ p.dataCells = d ∧
    r.cells.length = length ∧ p.reservation = 5 + p.maxObs.toNat * (3 + d) ∧
    (r.observations.length ≤ p.maxObs.toNat → (d = 0 → beats = 0) → length ≤ p.reservation) ∧
    ∃ c0 c1 c2 c3 trailer : Cell,
      let body := [c0, c1, c2, c3] ++ r.observations.flatMap Observation.cells
      r.cells = body ++ [trailer] ∧
      hasFields c0 [(0, 8, 0x52), (8, 8, 1), (16, 13, length), (32, 32, r.number.toNat)] ∧
      hasFields c1 [(0, 48, r.triggerTime.toNat), (48, 16, r.epoch.toNat)] ∧
      hasFields c2 [(0, 16, r.generation.toNat), (16, 11, r.observations.length), (27, 9, r.preCount),
        (36, 8, r.triggerIndex.getD 0), (44, 1, r.triggerIndex.isSome.toNat), (45, 2, cause), (47, 1, first.isSome.toNat),
        (48, 8, r.nested), (56, 1, r.truncated.toNat), (57, 1, r.aborted.toNat), (58, 1, r.extended.toNat),
        (59, 1, (0 < beats : Bool).toNat), (60, 1, r.epochChanged.toNat)] ∧
      hasFields c3 [(0, 32, r.suppressed.toNat), (32, 32, first.getD 0)] ∧
      hasFields trailer [(0, 32, (crcByGenerator (body.flatMap cellBytes)).toNat), (32, 13, length), (56, 8, 0x54)]) ∧
  (∀ o : Observation,
    let b := o.body
    let kind := match b.kind with
      | .read => 0
      | .write => 1
      | .declined => 2
      | .overdue => 3
      | .late => 4
      | .orphan => 5
      | .mark => 6
    let access := match b.access with
      | some .write => 1
      | some .read => 0
      | none => 0
    let status := match b.status with
      | none => 0
      | some .okay => 1
      | some .fault => 2
    let detail := match b.kind with
      | .read | .write => (b.overdueSeen.getD false).toNat
      | .overdue => (b.withdrawn.getD false).toNat
      | .declined => (match b.reason with
        | none => 0
        | some .initiator => 1
        | some .boundary => 2
        | some .window => 3)
      | .mark => (match b.cause with
        | none => 0
        | some .slip => 0
        | some .syncLost => 1
        | some .epoch => 2
        | some .software => 3)
      | .late | .orphan => 0
    ∃ c0 c1 c2 : Cell,
      o.cells = [c0, c1, c2] ++ (match o.dataBeat with
        | some beat => [beat.value]
        | none => []) ∧
      hasFields c0 [(0, 32, o.sequence.toNat), (32, 16, o.hits.toNat), (48, 3, kind), (51, 1, access),
        (52, 4, (b.initiator.getD 0).toNat), (56, 6, (b.tag.getD 0).toNat), (62, 2, detail)] ∧
      hasFields c1 [(0, 48, o.timestamp.toNat), (48, 5, b.beats.getD 0), (53, 2, status),
        (55, 1, o.dataBeat.isSome.toNat), (56, 8, match o.dataBeat with
          | some beat => beat.mask.toNat
          | none => 0)] ∧
      (b.markValue = none → hasFields c2 [(0, 40, (b.address.getD 0).toNat), (40, 24, b.latency.getD 0)]) ∧
      (∀ v, b.markValue = some v → b.address = none →
        hasFields c2 [(0, 32, v.toNat), (40, 24, b.latency.getD 0)])) ∧
  (∀ c : Cell, cellBytes c = [c.extractLsb' 0 8, c.extractLsb' 8 8, c.extractLsb' 16 8, c.extractLsb' 24 8,
    c.extractLsb' 32 8, c.extractLsb' 40 8, c.extractLsb' 48 8, c.extractLsb' 56 8]) ∧
  ∀ (area producer : Nat) (wrap : Word),
    hasFields (descriptorWord area) [(0, 8, 1), (32, 32, area)] ∧
    hasFields (producerWord producer wrap) [(0, 32, producer), (32, 32, wrap.toNat)] ∧
    hasFields wrapMarker [(0, 8, 0x57), (8, 8, 1)]

/-- A placement, case by case, and that it stays inside the free bytes: in an area of A bytes, with the producer and consumer
offsets in it and every quantity a multiple of 8. The free bytes are (consumer − producer − 8) modulo A. Each outcome is given
exactly in its case of the table, the first that applies: oversize; fits, with the wrap counted where the record ends at the
area's end; wraps, behind a marker; lone wrap; no room. The offset its publish writes lies in the area, no further ahead of the
producer offset than the free bytes, so never on or past the consumer offset, and the record lies whole inside the area. The
area of a valid ring is its size less 64 bytes. -/
def Obligations.PlacementStaysInFreeBytes : Prop :=
  (∀ p : ParamSet, p.ringValid = true →
    p.area + 64 = p.spillSize.toNat ∧ 16320 ≤ p.area ∧ p.area % 8 = 0) ∧
  ∀ (area p c n : Nat) (wrap : Word), 16 ≤ area → area % 8 = 0 → p < area → p % 8 = 0 → c < area → c % 8 = 0 →
    1 ≤ n →
    let free := ringFree area p c
    let outcome := placement area p free n wrap
    let large := area - 8 < 8 * n
    (free : Int) = ((c : Int) - p - 8) % area ∧
    (outcome = .oversize ↔ large) ∧
    (∀ m o np w, outcome = .record m o np w ↔ ¬large ∧
      ((p + 8 * n ≤ area ∧ 8 * n ≤ free ∧ m = none ∧ o = p ∧
          (p + 8 * n < area ∧ np = p + 8 * n ∧ w = wrap ∨ p + 8 * n = area ∧ np = 0 ∧ w = wrap + 1)) ∨
        (area < p + 8 * n ∧ area - p + 8 * n ≤ free ∧ m = some p ∧ o = 0 ∧ np = 8 * n ∧ w = wrap + 1))) ∧
    (∀ m w, outcome = .loneWrap m w ↔
      ¬large ∧ area < p + 8 * n ∧ free < area - p + 8 * n ∧ area - p ≤ free ∧ m = p ∧ w = wrap + 1) ∧
    (outcome = .noRoom ↔
      ¬large ∧ (p + 8 * n ≤ area ∧ free < 8 * n ∨ area < p + 8 * n ∧ free < area - p)) ∧
    (∀ m o np w, placement area p free n wrap = .record m o np w →
      np < area ∧ np % 8 = 0 ∧ (np + area - p) % area ≤ free ∧ np ≠ c ∧ o + 8 * n ≤ area ∧
        (m = none ∧ o = p ∨ m = some p ∧ o = 0) ∧ (w = if np < p then wrap + 1 else wrap)) ∧
    (∀ m w, placement area p free n wrap = .loneWrap m w → m = p ∧ w = wrap + 1 ∧ area - p ≤ free ∧ c ≠ 0)

/-- An answer to an outstanding write of the current attempt; each frees its tag. OKAY to a write before the publish: one
fewer to come; the last of them takes a record or lone wrap attempt into PUBLISH, and completes an INIT, after which the
engine is IDLE and takes the head. OKAY to the publish of a record: the producer offset and wrap count take the published
values, the head leaves the directory with hold following the freed store, the spilled counter counts, and the engine is
IDLE or takes the new head, unless a stale publish is in use. OKAY to the publish of a lone wrap: the offsets take the
published values and the same head is placed again. A FAULT to any write ends the attempt: the engine is in FAULT with the
cause of the write, the head is READY again, every other write in use is stale, and SPILL_FAULT is set. Nothing goes
upstream and nothing is observed. -/
def Obligations.SpillAnswersAct : Prop :=
  ∀ (s : State) (r : Response) (u : TagUse) (a : Attempt), s.running → r.initiator = 15 →
    s.spill.tags[r.tag.toNat]? = some (.inUse u) → u.taken = true → u.stale = false → s.spill.attempt = some a →
    let freed := { s.beginEvent with spill := { s.spill with tags := s.spill.tags.set r.tag.toNat .free } }
    (r.status = .okay → u.role = .body →
      (1 < a.unacknowledged →
        exec (.dPortResponse r) s = .next { freed with spill := { freed.spill with
          attempt := some { a with unacknowledged := a.unacknowledged - 1 } } }) ∧
      (a.unacknowledged = 1 → a.kind ≠ .init →
        exec (.dPortResponse r) s = .next { freed with spill := { freed.spill with
          engine := .publish, attempt := some { a with unacknowledged := 0 } } }) ∧
      (a.unacknowledged = 1 → a.kind = .init →
        let idle := { freed with spill := { freed.spill with engine := .idle, attempt := none } }
        (s.store.directory = [] ∨ freed.stalePublishInUse → exec (.dPortResponse r) s = .next idle) ∧
        (∀ h rest, s.store.directory = h :: rest → ¬freed.stalePublishInUse →
          exec (.dPortResponse r) s = .next (idle.headPlaced h rest)))) ∧
    (∀ (h : DirectoryEntry) (rest : List DirectoryEntry) (np : Nat) (w : Word), r.status = .okay →
      u.role = .publish np w → s.store.directory = h :: rest →
      let published := { freed with spill := { freed.spill with
        engine := .idle, attempt := none, producer := np, wrapCount := w } }
      (a.kind = .record →
        let t := ({ s.beginEvent with store := { s.store with directory := rest } } : State).followHold.count .spilled
        let t := { t with spill := published.spill }
        (rest = [] ∨ freed.stalePublishInUse → exec (.dPortResponse r) s = .next t) ∧
        (∀ h' rest', rest = h' :: rest' → ¬freed.stalePublishInUse →
          exec (.dPortResponse r) s = .next (t.headPlaced h' rest'))) ∧
      (a.kind = .loneWrap → exec (.dPortResponse r) s = .next (published.headPlaced h rest))) ∧
    (r.status = .fault →
      exec (.dPortResponse r) s = .next (({ s.beginEvent with
        store := { s.store with directory := s.store.directory.modify 0 fun e => { e with state := .ready } }
        spill := { s.spill with
          engine := .fault (if a.kind = .init then .initFault else if u.role = .body then .writeFault else .publishFault)
          attempt := none
          tags := (s.spill.tags.set r.tag.toNat .free).map fun g => match g with
            | .inUse u => .inUse { u with stale := true }
            | .lost => .lost
            | .free => .free } } : State).raise .spillFault))

/-- An answer under initiator 15 that is none of the current attempt's. To a stale write it is absorbed and its tag freed, and
an OKAY to a stale publish sets the producer offset and wrap count that it carried; an IDLE engine with a record waiting takes
the head once no stale publish is in use. Under a lost tag it clears the mark and is an orphan; under a free tag, under a tag
whose write is not yet taken, or under a tag past the four it is an orphan and changes no tag. -/
def Obligations.OtherSpillAnswersAreAbsorbedOrOrphans : Prop :=
  ∀ (s : State) (r : Response), s.running → r.initiator = 15 →
    let freed := { s.beginEvent with spill := { s.spill with tags := s.spill.tags.set r.tag.toNat .free } }
    let orphan := fun t : State => ((t.raise .orphan).count .orphan).observe
      { kind := .orphan, access := some r.kind, initiator := some 15, tag := some r.tag,
        beats := some (if r.kind = .read then r.data.length else 0), status := some r.status } none
    (∀ u, s.spill.tags[r.tag.toNat]? = some (.inUse u) → u.taken = true → u.stale = true →
      (u.role = .body → exec (.dPortResponse r) s = .next freed) ∧
      (∀ np w, u.role = .publish np w →
        let t := if r.status = .okay then { freed with spill := { freed.spill with producer := np, wrapCount := w } }
          else freed
        (s.spill.engine ≠ .idle ∨ s.store.directory = [] ∨ freed.stalePublishInUse →
          exec (.dPortResponse r) s = .next t) ∧
        (∀ h rest, s.spill.engine = .idle → s.store.directory = h :: rest → ¬freed.stalePublishInUse →
          exec (.dPortResponse r) s = .next (t.headPlaced h rest)))) ∧
    (s.spill.tags[r.tag.toNat]? = some .lost → exec (.dPortResponse r) s = .next (orphan freed)) ∧
    ((s.spill.tags[r.tag.toNat]? = some .free ∨ s.spill.tags[r.tag.toNat]? = none ∨
        ∃ u, s.spill.tags[r.tag.toNat]? = some (.inUse u) ∧ u.taken = false) →
      exec (.dPortResponse r) s = .next (orphan s.beginEvent))

/-- The OKAY response to a write of the consumer word, in PASS mode, the one entry of its key. The engine ignores it while
OFF; a burst of more than one beat or with a byte mask not full is counted as malformed; an offset that is a multiple of 8,
below A and on the forward path to the producer offset becomes the consumer offset, and in WAIT_SPACE the head is then placed
again; any other sets BAD_CONSUMER. The write is answered as any other, and the number of the next free choice moves on (log
entry 7). And what the offer of the word does to the part in any mode, beside whatever observation: the same judgement and the
same effects. -/
def Obligations.ConsumerWriteIsJudged : Prop :=
  (∀ (s : State) (r : Response) (e : Entry) (sn : Snoop) (pre post : List Entry), s.running → r.initiator ≠ 15 →
    abandonedOf s.transit.abandoned ⟨r.initiator, r.tag⟩ = 0 → s.transit.table = pre ++ e :: post →
    (∀ x ∈ pre ++ post, x.key ≠ e.key ∧ x.id ≠ e.id) → e.key = ⟨r.initiator, r.tag⟩ → e.path = .issued →
    e.downstream = .taken → e.kind = .write → e.snoop = some sn → sn.word = .consumer → r.status = .okay →
    s.config.active.mode? = some .pass →
    let answered := { s with
      freeIndex := s.freeIndex + 1
      transit := { s.transit with table := pre ++ post }
      outputs := { s.outputs with upstream :=
        [{ kind := .write, initiator := r.initiator, tag := r.tag, status := .okay, data := [] }] } }
    let area := s.config.active.area
    let v := (sn.beat.value.extractLsb' 0 32).toNat
    let forward := (v + area - s.spill.consumer) % area ≤ (s.spill.producer + area - s.spill.consumer) % area
    (s.spill.engine = .off → exec (.dPortResponse r) s = .next answered) ∧
    (s.spill.engine ≠ .off → (sn.beats ≠ 1 ∨ sn.beat.mask ≠ 0xFF) →
      exec (.dPortResponse r) s = .next (answered.count .consumerMalformed)) ∧
    (s.spill.engine ≠ .off → sn.beats = 1 → sn.beat.mask = 0xFF → v % 8 = 0 → v < area → forward →
      let taken := { answered with spill := { s.spill with consumer := v } }
      (s.spill.engine ≠ .waitSpace → exec (.dPortResponse r) s = .next taken) ∧
      (∀ h rest, s.spill.engine = .waitSpace → s.store.directory = h :: rest →
        exec (.dPortResponse r) s = .next (taken.headPlaced h rest))) ∧
    (s.spill.engine ≠ .off → sn.beats = 1 → sn.beat.mask = 0xFF → ¬(v % 8 = 0 ∧ v < area ∧ forward) →
      exec (.dPortResponse r) s = .next (answered.raise .badConsumer))) ∧
  (∀ (s : State) (sn : Snoop) (i : Initiator), sn.word = .consumer →
    let area := s.config.active.area
    let v := (sn.beat.value.extractLsb' 0 32).toNat
    let forward := (v + area - s.spill.consumer) % area ≤ (s.spill.producer + area - s.spill.consumer) % area
    let taken := { s with spill := { s.spill with consumer := v } }
    (s.spill.engine = .off → s.snoopOffer sn i = s) ∧
    (s.spill.engine ≠ .off → (sn.beats ≠ 1 ∨ sn.beat.mask ≠ 0xFF) →
      s.snoopOffer sn i = s.count .consumerMalformed) ∧
    (s.spill.engine ≠ .off → sn.beats = 1 → sn.beat.mask = 0xFF → v % 8 = 0 → v < area → forward →
      (s.spill.engine ≠ .waitSpace → s.snoopOffer sn i = taken) ∧
      (∀ h rest, s.spill.engine = .waitSpace → s.store.directory = h :: rest →
        s.snoopOffer sn i = taken.headPlaced h rest)) ∧
    (s.spill.engine ≠ .off → sn.beats = 1 → sn.beat.mask = 0xFF → ¬(v % 8 = 0 ∧ v < area ∧ forward) →
      s.snoopOffer sn i = s.raise .badConsumer))

/-- The OKAY response to a write of the command word, in PASS mode with the unit DISARMED, the one entry of its key. With
the page disabled the offer is ignored; an initiator outside the permit mask is counted as unpermitted, a byte mask not full
as malformed; a known code is counted as interpreted, after the clear where it is CLEAR_COUNTERS, and an unknown one sets
BAD_CONTROL. The write is answered as any other, and the number of the next free choice moves on (log entry 7). And what
each code does to the part, in any mode and state, where the offer passes the tests: ARM, DISARM and FORCE act on the
trigger unit as the commands of the port do, FORCE with its own cause, MARK asks for a MARK(SOFTWARE) with the argument,
CLEAR_COUNTERS clears, and an unknown code acts on nothing. And where the page is disabled, the initiator unpermitted or the
mask not full, the offer does in any mode what it does in PASS. That hold follows a FORCE with Q of 0 only after its record
has closed is the model's choice (log entry 19). That bit i of a set of initiators stands for initiator i is the model's
reading (log entry 13). -/
def Obligations.CommandWriteIsJudged : Prop :=
  (∀ (s : State) (r : Response) (e : Entry) (sn : Snoop) (pre post : List Entry), s.running → r.initiator ≠ 15 →
      abandonedOf s.transit.abandoned ⟨r.initiator, r.tag⟩ = 0 → s.transit.table = pre ++ e :: post →
      (∀ x ∈ pre ++ post, x.key ≠ e.key ∧ x.id ≠ e.id) → e.key = ⟨r.initiator, r.tag⟩ → e.path = .issued →
      e.downstream = .taken → e.kind = .write → e.snoop = some sn → sn.word = .command → r.status = .okay →
      s.config.active.mode? = some .pass → s.trigger.state = .disarmed →
      let answered := { s with
        freeIndex := s.freeIndex + 1
        transit := { s.transit with table := pre ++ post }
        outputs := { s.outputs with upstream :=
          [{ kind := .write, initiator := r.initiator, tag := r.tag, status := .okay, data := [] }] } }
      let permitted := s.config.active.permit.getLsbD r.initiator.toNat
      let code := (sn.beat.value.extractLsb' 0 8).toNat
      (s.config.active.pageEnable = false → exec (.dPortResponse r) s = .next answered) ∧
      (s.config.active.pageEnable = true → permitted = false →
        exec (.dPortResponse r) s = .next (answered.count .controlUnpermitted)) ∧
      (s.config.active.pageEnable = true → permitted = true → sn.beat.mask ≠ 0xFF →
        exec (.dPortResponse r) s = .next (answered.count .controlMalformed)) ∧
      (s.config.active.pageEnable = true → permitted = true → sn.beat.mask = 0xFF →
        (1 ≤ code ∧ code ≤ 4 → exec (.dPortResponse r) s = .next (answered.count .controlInterpreted)) ∧
        (code = 5 → exec (.dPortResponse r) s = .next (({ answered with
          conditions := { s.conditions with counters := List.replicate 26 0 }
          watchStats := List.replicate 16 { hits := 0, lastSequence := none, maxLatency := none } } : State).count
          .controlInterpreted)) ∧
        (code = 0 ∨ 5 < code → exec (.dPortResponse r) s = .next (answered.raise .badControl)))) ∧
  (∀ (s : State) (sn : Snoop) (i : Initiator), sn.word = .command → s.config.active.pageEnable = true →
    s.config.active.permit.getLsbD i.toNat = true → sn.beat.mask = 0xFF →
    let p := s.config.active
    let code := (sn.beat.value.extractLsb' 0 8).toNat
    let argument : Word := sn.beat.value.extractLsb' 32 32
    let after := fun t : State => s.snoopOffer sn i = t.count .controlInterpreted
    let unit := fun state : TriggerState => ({ s with trigger := { s.trigger with state := state } } : State)
    (code = 1 →
      (s.trigger.state = .disarmed → p.mode? = some .observe → after (unit stageZero)) ∧
      ((s.trigger.state ≠ .disarmed ∨ p.mode? ≠ some .observe) → after s)) ∧
    (code = 2 →
      (s.trigger.state = .disarmed → after s) ∧
      (∀ a, s.trigger.state = .armed a → after (unit .disarmed)) ∧
      (∀ r, s.trigger.state = .capturing → s.store.openRecord = some r →
        after (s.recordClosed { r with aborted := true } .disarmed))) ∧
    (code = 3 →
      (s.trigger.state = .disarmed → after s) ∧
      (∀ r, s.trigger.state = .capturing → s.store.openRecord = some r →
        let again : OpenRecord := { r with nested := min (r.nested + 1) 255 }
        let struck : OpenRecord :=
          if p.retriggerMode? = some .extend then { again with postRemaining := p.postCount.toNat, extended := true }
          else again
        after (({ s with store := { s.store with openRecord := some struck } } : State).count .nested)) ∧
      (∀ a, s.trigger.state = .armed a → ∃ t, s.fireGives .forceWord false t ∧ after t)) ∧
    (code = 4 → after (s.observe { kind := .mark, cause := some .software, markValue := some argument } none)) ∧
    (code = 5 → after { s with
      conditions := { s.conditions with counters := List.replicate 26 0 }
      watchStats := List.replicate 16 { hits := 0, lastSequence := none, maxLatency := none } }) ∧
    (code = 0 ∨ 5 < code → s.snoopOffer sn i = s.raise .badControl)) ∧
  (∀ (s : State) (sn : Snoop) (i : Initiator), sn.word = .command →
    let permitted := s.config.active.permit.getLsbD i.toNat
    (s.config.active.pageEnable = false → s.snoopOffer sn i = s) ∧
    (s.config.active.pageEnable = true → permitted = false → s.snoopOffer sn i = s.count .controlUnpermitted) ∧
    (s.config.active.pageEnable = true → permitted = true → sn.beat.mask ≠ 0xFF →
      s.snoopOffer sn i = s.count .controlMalformed))

/-! ## The time base -/

/-- A pulse, as one event in its order: its phase and raw time are recorded and it is counted; in MONITOR and EVERY a phase
beyond J is a slip, set and counted, and its MARK(SLIP) runs its whole path under the old offset; then a nonzero phase in EVERY,
or with ONCE armed, moves the offset back by it and starts the next epoch, which the open record is told, and its MARK(EPOCH)
runs its whole path; then ONCE clears, and the loss watch runs in MONITOR and EVERY. In OBSERVE mode the two marks of one pulse
are the ring's newest entries, consecutive in number, SLIP first, EPOCH timed under the new offset. A rise of SYNCIN before the
line has been low for a tick is no pulse; any other rise after a gap, or of a pulse, shorter than a tick either passes without
effect or is the pulse (log entry 9). -/
def Obligations.SyncPulseActs : Prop :=
  ∀ s : State, s.running →
    let d := phaseOf (s.clock.raw + s.clock.offset) s.config.active.period.toNat
    let watched := s.config.active.syncMode? == some .monitor || s.config.active.syncMode? == some .every
    let slips := watched && s.config.active.jitter.toNat < d.natAbs
    let moves := d != 0 && (s.config.active.syncMode? == some .every || s.clock.once)
    let t := ({ s.beginEvent with clock := { s.clock with
      lastPulse := some s.clock.raw, lastPhase := some d, lineSeenLow := true } } : State).count .syncPulses
    let u := if slips then ((t.raise .syncSlip).count .syncSlips).observe { kind := .mark, cause := some .slip } none else t
    let v :=
      if moves then
        ({ u with
          store := { u.store with
            openRecord := u.store.openRecord.map fun r : OpenRecord => { r with epochChanged := true } }
          clock := { u.clock with offset := u.clock.offset - BitVec.ofInt 48 d, epoch := u.clock.epoch + 1 } } :
          State).observe { kind := .mark, cause := some .epoch } none
      else u
    exec (.syncPulse ⟨true, true⟩) s = .next
      { v with clock := { v.clock with once := false, lossWatch := if watched then .watching else .idle } } ∧
    (s.config.active.mode? = some .observe → slips = true → moves = true →
      ∃ x y rest, v.observer.ring = x :: y :: rest ∧ x.obs.body = { kind := .mark, cause := some .epoch } ∧
        y.obs.body = { kind := .mark, cause := some .slip } ∧ y.obs.sequence = s.observer.sequence ∧
        x.obs.sequence = s.observer.sequence + 1 ∧ y.obs.timestamp = s.clock.raw + s.clock.offset ∧
        x.obs.timestamp = s.clock.raw + (s.clock.offset - BitVec.ofInt 48 d)) ∧
    (∀ l : LineRise, (l.lowTick = false ∨ l.highTick = false) →
      (s.clock.lineSeenLow = false → l.lowTick = false → exec (.syncPulse l) s = .next s.beginEvent) ∧
      (s.clock.lineSeenLow = true ∨ l.lowTick = true →
        exec (.syncPulse l) s = .next { s.beginEvent with
            clock := { s.clock with lineSeenLow := true }, freeIndex := s.freeIndex + 1 } ∨
          exec (.syncPulse l) s = exec (.syncPulse ⟨true, true⟩) { s with freeIndex := s.freeIndex + 1 }))

/-- The phase of a pulse lies in (−SP/2, SP/2] and takes the aligned time onto a multiple of SP. -/
def Obligations.PhaseIsNearestGridDistance : Prop :=
  ∀ (t : Time) (period : Nat), 0 < period →
    -(period : Int) < 2 * phaseOf t period ∧ 2 * phaseOf t period ≤ period ∧
      (period : Int) ∣ (t.toNat : Int) - phaseOf t period

/-! ## Invariants -/

/-- From every state whose table is sound, a step gives one: the table never holds more than 48 entries, and no answer
that could be sent and no entry that could be freed is left in it. -/
def Obligations.TransitTableStaysSound : Prop :=
  ∀ s t : State, s.tableSound → step s = .next t → t.tableSound

/-- From every state whose history ring is sound, a step gives one: at most 512 entries, with consecutive sequence numbers
that end at the most recent observation made. -/
def Obligations.HistoryRingStaysSound : Prop :=
  ∀ s t : State, s.ringSound → step s = .next t → t.ringSound

/-- From every state whose sets are sound, a step gives one: a set that fails a check never reaches ACTIVE. -/
def Obligations.ActiveSetStaysChecked : Prop :=
  ∀ s t : State, s.setsSound → step s = .next t → t.setsSound

/-- From every state whose record store is sound, a step gives one: the directory and the reservation fit in 16384 cells
and 256 places, CAPTURING and an open record go together, and the open record never outgrows its reservation. -/
def Obligations.RecordStoreStaysSound : Prop :=
  ∀ s t : State, s.storeSound → step s = .next t → t.storeSound

/-- From every state whose engine is sound, a step gives one: OFF exactly without a route SPILL and a valid ring, an attempt
exactly in INIT, WRITING and PUBLISH, an INIT attempt exactly in INIT, and a SPILLING head exactly for a record attempt. -/
def Obligations.SpillEngineStaysSound : Prop :=
  ∀ s t : State, s.engineSound → step s = .next t → t.engineSound

/-- From every state whose hold is sound, a step gives one: an episode lasts exactly while a request waits and HOLD is in
force. -/
def Obligations.HoldEpisodeStaysSound : Prop :=
  ∀ s t : State, s.holdSound → step s = .next t → t.holdSound

/-- The state after reset meets every invariant. -/
def Obligations.ResetIsSound : Prop :=
  State.reset.tableSound ∧ State.reset.ringSound ∧ State.reset.setsSound ∧ State.reset.storeSound ∧
    State.reset.engineSound ∧ State.reset.holdSound

end Statements
end

