-- ==== Sys2Proof/Laws/State.lean ====
section
/-! SUPPORT. What each named update of the state leaves in each field: one lemma per field, true by definition, so that no
proof unfolds a record update. -/

namespace Sys2Proof.Machine

variable (s : State)

/-! ## State.count -/

@[simp] theorem State.count_pending (c : Counter) : (s.count c).pending = s.pending := rfl
@[simp] theorem State.count_held (c : Counter) : (s.count c).held = s.held := rfl
@[simp] theorem State.count_config (c : Counter) : (s.count c).config = s.config := rfl
@[simp] theorem State.count_transit (c : Counter) : (s.count c).transit = s.transit := rfl
@[simp] theorem State.count_observer (c : Counter) : (s.count c).observer = s.observer := rfl
@[simp] theorem State.count_watchStats (c : Counter) : (s.count c).watchStats = s.watchStats := rfl
@[simp] theorem State.count_trigger (c : Counter) : (s.count c).trigger = s.trigger := rfl
@[simp] theorem State.count_store (c : Counter) : (s.count c).store = s.store := rfl
@[simp] theorem State.count_spill (c : Counter) : (s.count c).spill = s.spill := rfl
@[simp] theorem State.count_clock (c : Counter) : (s.count c).clock = s.clock := rfl
@[simp] theorem State.count_counters (c : Counter) :
    (s.count c).conditions.counters =
      s.conditions.counters.modify c.index satSucc := rfl
@[simp] theorem State.count_sticky (c : Counter) : (s.count c).conditions.sticky = s.conditions.sticky := rfl
@[simp] theorem State.count_alertEnable (c : Counter) :
    (s.count c).conditions.alertEnable =
      s.conditions.alertEnable := rfl
@[simp] theorem State.count_outputs (c : Counter) : (s.count c).outputs = s.outputs := rfl
@[simp] theorem State.count_freeIndex (c : Counter) : (s.count c).freeIndex = s.freeIndex := rfl

/-! ## State.countBy -/

@[simp] theorem State.countBy_pending (c : Counter) (n : Nat) : (s.countBy c n).pending = s.pending := rfl
@[simp] theorem State.countBy_held (c : Counter) (n : Nat) : (s.countBy c n).held = s.held := rfl
@[simp] theorem State.countBy_config (c : Counter) (n : Nat) : (s.countBy c n).config = s.config := rfl
@[simp] theorem State.countBy_transit (c : Counter) (n : Nat) : (s.countBy c n).transit = s.transit := rfl
@[simp] theorem State.countBy_observer (c : Counter) (n : Nat) : (s.countBy c n).observer = s.observer := rfl
@[simp] theorem State.countBy_watchStats (c : Counter) (n : Nat) : (s.countBy c n).watchStats = s.watchStats := rfl
@[simp] theorem State.countBy_trigger (c : Counter) (n : Nat) : (s.countBy c n).trigger = s.trigger := rfl
@[simp] theorem State.countBy_store (c : Counter) (n : Nat) : (s.countBy c n).store = s.store := rfl
@[simp] theorem State.countBy_spill (c : Counter) (n : Nat) : (s.countBy c n).spill = s.spill := rfl
@[simp] theorem State.countBy_clock (c : Counter) (n : Nat) : (s.countBy c n).clock = s.clock := rfl
@[simp] theorem State.countBy_counters (c : Counter) (n : Nat) :
    (s.countBy c n).conditions.counters =
      s.conditions.counters.modify c.index (satAdd · n) := rfl
@[simp] theorem State.countBy_sticky (c : Counter) (n : Nat) :
    (s.countBy c n).conditions.sticky =
      s.conditions.sticky := rfl
@[simp] theorem State.countBy_alertEnable (c : Counter) (n : Nat) :
    (s.countBy c n).conditions.alertEnable =
      s.conditions.alertEnable := rfl
@[simp] theorem State.countBy_outputs (c : Counter) (n : Nat) : (s.countBy c n).outputs = s.outputs := rfl
@[simp] theorem State.countBy_freeIndex (c : Counter) (n : Nat) : (s.countBy c n).freeIndex = s.freeIndex := rfl

/-! ## State.raise -/

@[simp] theorem State.raise_pending (k : Sticky) : (s.raise k).pending = s.pending := rfl
@[simp] theorem State.raise_held (k : Sticky) : (s.raise k).held = s.held := rfl
@[simp] theorem State.raise_config (k : Sticky) : (s.raise k).config = s.config := rfl
@[simp] theorem State.raise_transit (k : Sticky) : (s.raise k).transit = s.transit := rfl
@[simp] theorem State.raise_observer (k : Sticky) : (s.raise k).observer = s.observer := rfl
@[simp] theorem State.raise_watchStats (k : Sticky) : (s.raise k).watchStats = s.watchStats := rfl
@[simp] theorem State.raise_trigger (k : Sticky) : (s.raise k).trigger = s.trigger := rfl
@[simp] theorem State.raise_store (k : Sticky) : (s.raise k).store = s.store := rfl
@[simp] theorem State.raise_spill (k : Sticky) : (s.raise k).spill = s.spill := rfl
@[simp] theorem State.raise_clock (k : Sticky) : (s.raise k).clock = s.clock := rfl
@[simp] theorem State.raise_sticky (k : Sticky) :
    (s.raise k).conditions.sticky =
      s.conditions.sticky ||| (1 : Word) <<< k.bit := rfl
@[simp] theorem State.raise_counters (k : Sticky) : (s.raise k).conditions.counters = s.conditions.counters := rfl
@[simp] theorem State.raise_alertEnable (k : Sticky) :
    (s.raise k).conditions.alertEnable =
      s.conditions.alertEnable := rfl
@[simp] theorem State.raise_outputs (k : Sticky) : (s.raise k).outputs = s.outputs := rfl
@[simp] theorem State.raise_freeIndex (k : Sticky) : (s.raise k).freeIndex = s.freeIndex := rfl

/-! ## State.clearCounters -/

@[simp] theorem State.clearCounters_pending : s.clearCounters.pending = s.pending := rfl
@[simp] theorem State.clearCounters_held : s.clearCounters.held = s.held := rfl
@[simp] theorem State.clearCounters_config : s.clearCounters.config = s.config := rfl
@[simp] theorem State.clearCounters_transit : s.clearCounters.transit = s.transit := rfl
@[simp] theorem State.clearCounters_observer : s.clearCounters.observer = s.observer := rfl
@[simp] theorem State.clearCounters_watchStats :
    s.clearCounters.watchStats =
      List.replicate 16 WatchStat.cleared := rfl
@[simp] theorem State.clearCounters_trigger : s.clearCounters.trigger = s.trigger := rfl
@[simp] theorem State.clearCounters_store : s.clearCounters.store = s.store := rfl
@[simp] theorem State.clearCounters_spill : s.clearCounters.spill = s.spill := rfl
@[simp] theorem State.clearCounters_clock : s.clearCounters.clock = s.clock := rfl
@[simp] theorem State.clearCounters_counters : s.clearCounters.conditions.counters = List.replicate 26 0 := rfl
@[simp] theorem State.clearCounters_sticky : s.clearCounters.conditions.sticky = s.conditions.sticky := rfl
@[simp] theorem State.clearCounters_alertEnable :
    s.clearCounters.conditions.alertEnable =
      s.conditions.alertEnable := rfl
@[simp] theorem State.clearCounters_outputs : s.clearCounters.outputs = s.outputs := rfl
@[simp] theorem State.clearCounters_freeIndex : s.clearCounters.freeIndex = s.freeIndex := rfl

/-! ## State.beginEvent -/

@[simp] theorem State.beginEvent_pending : s.beginEvent.pending = s.pending := rfl
@[simp] theorem State.beginEvent_held : s.beginEvent.held = s.held := rfl
@[simp] theorem State.beginEvent_config : s.beginEvent.config = s.config := rfl
@[simp] theorem State.beginEvent_transit : s.beginEvent.transit = s.transit := rfl
@[simp] theorem State.beginEvent_observer : s.beginEvent.observer = s.observer := rfl
@[simp] theorem State.beginEvent_watchStats : s.beginEvent.watchStats = s.watchStats := rfl
@[simp] theorem State.beginEvent_trigger : s.beginEvent.trigger = s.trigger := rfl
@[simp] theorem State.beginEvent_store : s.beginEvent.store = s.store := rfl
@[simp] theorem State.beginEvent_spill : s.beginEvent.spill = s.spill := rfl
@[simp] theorem State.beginEvent_clock : s.beginEvent.clock = s.clock := rfl
@[simp] theorem State.beginEvent_conditions : s.beginEvent.conditions = s.conditions := rfl
@[simp] theorem State.beginEvent_outputs : s.beginEvent.outputs = { s.outputs with upstream := [] } := rfl
@[simp] theorem State.beginEvent_freeIndex : s.beginEvent.freeIndex = s.freeIndex := rfl

/-! ## State.spendChoices -/

@[simp] theorem State.spendChoices_pending (n : Nat) : (s.spendChoices n).pending = s.pending := rfl
@[simp] theorem State.spendChoices_held (n : Nat) : (s.spendChoices n).held = s.held := rfl
@[simp] theorem State.spendChoices_config (n : Nat) : (s.spendChoices n).config = s.config := rfl
@[simp] theorem State.spendChoices_transit (n : Nat) : (s.spendChoices n).transit = s.transit := rfl
@[simp] theorem State.spendChoices_observer (n : Nat) : (s.spendChoices n).observer = s.observer := rfl
@[simp] theorem State.spendChoices_watchStats (n : Nat) : (s.spendChoices n).watchStats = s.watchStats := rfl
@[simp] theorem State.spendChoices_trigger (n : Nat) : (s.spendChoices n).trigger = s.trigger := rfl
@[simp] theorem State.spendChoices_store (n : Nat) : (s.spendChoices n).store = s.store := rfl
@[simp] theorem State.spendChoices_spill (n : Nat) : (s.spendChoices n).spill = s.spill := rfl
@[simp] theorem State.spendChoices_clock (n : Nat) : (s.spendChoices n).clock = s.clock := rfl
@[simp] theorem State.spendChoices_conditions (n : Nat) : (s.spendChoices n).conditions = s.conditions := rfl
@[simp] theorem State.spendChoices_outputs (n : Nat) : (s.spendChoices n).outputs = s.outputs := rfl
@[simp] theorem State.spendChoices_freeIndex (n : Nat) : (s.spendChoices n).freeIndex = s.freeIndex + n := rfl

/-! ## State.setTrigger -/

@[simp] theorem State.setTrigger_pending (t : TriggerState) : (s.setTrigger t).pending = s.pending := rfl
@[simp] theorem State.setTrigger_held (t : TriggerState) : (s.setTrigger t).held = s.held := rfl
@[simp] theorem State.setTrigger_config (t : TriggerState) : (s.setTrigger t).config = s.config := rfl
@[simp] theorem State.setTrigger_transit (t : TriggerState) : (s.setTrigger t).transit = s.transit := rfl
@[simp] theorem State.setTrigger_observer (t : TriggerState) : (s.setTrigger t).observer = s.observer := rfl
@[simp] theorem State.setTrigger_watchStats (t : TriggerState) : (s.setTrigger t).watchStats = s.watchStats := rfl
@[simp] theorem State.setTrigger_trigger (t : TriggerState) :
    (s.setTrigger t).trigger =
      { s.trigger with state := t } := rfl
@[simp] theorem State.setTrigger_store (t : TriggerState) : (s.setTrigger t).store = s.store := rfl
@[simp] theorem State.setTrigger_spill (t : TriggerState) : (s.setTrigger t).spill = s.spill := rfl
@[simp] theorem State.setTrigger_clock (t : TriggerState) : (s.setTrigger t).clock = s.clock := rfl
@[simp] theorem State.setTrigger_conditions (t : TriggerState) : (s.setTrigger t).conditions = s.conditions := rfl
@[simp] theorem State.setTrigger_outputs (t : TriggerState) : (s.setTrigger t).outputs = s.outputs := rfl
@[simp] theorem State.setTrigger_freeIndex (t : TriggerState) : (s.setTrigger t).freeIndex = s.freeIndex := rfl

/-! ## State.enterStage -/

@[simp] theorem State.enterStage_pending (n : Nat) : (s.enterStage n).pending = s.pending := rfl
@[simp] theorem State.enterStage_held (n : Nat) : (s.enterStage n).held = s.held := rfl
@[simp] theorem State.enterStage_config (n : Nat) : (s.enterStage n).config = s.config := rfl
@[simp] theorem State.enterStage_transit (n : Nat) : (s.enterStage n).transit = s.transit := rfl
@[simp] theorem State.enterStage_observer (n : Nat) : (s.enterStage n).observer = s.observer := rfl
@[simp] theorem State.enterStage_watchStats (n : Nat) : (s.enterStage n).watchStats = s.watchStats := rfl
@[simp] theorem State.enterStage_trigger (n : Nat) :
    (s.enterStage n).trigger =
      { s.trigger with state := .armed (freshStage s.config.active n) } := rfl
@[simp] theorem State.enterStage_store (n : Nat) : (s.enterStage n).store = s.store := rfl
@[simp] theorem State.enterStage_spill (n : Nat) : (s.enterStage n).spill = s.spill := rfl
@[simp] theorem State.enterStage_clock (n : Nat) : (s.enterStage n).clock = s.clock := rfl
@[simp] theorem State.enterStage_conditions (n : Nat) : (s.enterStage n).conditions = s.conditions := rfl
@[simp] theorem State.enterStage_outputs (n : Nat) : (s.enterStage n).outputs = s.outputs := rfl
@[simp] theorem State.enterStage_freeIndex (n : Nat) : (s.enterStage n).freeIndex = s.freeIndex := rfl

/-! ## State.updateEntry -/

@[simp] theorem State.updateEntry_pending (id : Nat) (f : Entry → Entry) : (s.updateEntry id f).pending = s.pending := rfl
@[simp] theorem State.updateEntry_held (id : Nat) (f : Entry → Entry) : (s.updateEntry id f).held = s.held := rfl
@[simp] theorem State.updateEntry_config (id : Nat) (f : Entry → Entry) : (s.updateEntry id f).config = s.config := rfl
@[simp] theorem State.updateEntry_transit (id : Nat) (f : Entry → Entry) :
    (s.updateEntry id f).transit =
      { s.transit with table := s.transit.table.map fun e => if e.id = id then f e else e } := rfl
@[simp] theorem State.updateEntry_observer (id : Nat) (f : Entry → Entry) : (s.updateEntry id f).observer = s.observer := rfl
@[simp] theorem State.updateEntry_watchStats (id : Nat) (f : Entry → Entry) : (s.updateEntry id f).watchStats = s.watchStats := rfl
@[simp] theorem State.updateEntry_trigger (id : Nat) (f : Entry → Entry) : (s.updateEntry id f).trigger = s.trigger := rfl
@[simp] theorem State.updateEntry_store (id : Nat) (f : Entry → Entry) : (s.updateEntry id f).store = s.store := rfl
@[simp] theorem State.updateEntry_spill (id : Nat) (f : Entry → Entry) : (s.updateEntry id f).spill = s.spill := rfl
@[simp] theorem State.updateEntry_clock (id : Nat) (f : Entry → Entry) : (s.updateEntry id f).clock = s.clock := rfl
@[simp] theorem State.updateEntry_conditions (id : Nat) (f : Entry → Entry) : (s.updateEntry id f).conditions = s.conditions := rfl
@[simp] theorem State.updateEntry_outputs (id : Nat) (f : Entry → Entry) : (s.updateEntry id f).outputs = s.outputs := rfl
@[simp] theorem State.updateEntry_freeIndex (id : Nat) (f : Entry → Entry) : (s.updateEntry id f).freeIndex = s.freeIndex := rfl

/-! ## State.joinTable -/

@[simp] theorem State.joinTable_pending (e : Entry) : (s.joinTable e).pending = s.pending := rfl
@[simp] theorem State.joinTable_held (e : Entry) : (s.joinTable e).held = s.held := rfl
@[simp] theorem State.joinTable_config (e : Entry) : (s.joinTable e).config = s.config := rfl
@[simp] theorem State.joinTable_transit (e : Entry) :
    (s.joinTable e).transit =
      { s.transit with upstream := none, table := s.transit.table ++ [e], takes := s.transit.takes + 1 } := rfl
@[simp] theorem State.joinTable_observer (e : Entry) : (s.joinTable e).observer = s.observer := rfl
@[simp] theorem State.joinTable_watchStats (e : Entry) : (s.joinTable e).watchStats = s.watchStats := rfl
@[simp] theorem State.joinTable_trigger (e : Entry) : (s.joinTable e).trigger = s.trigger := rfl
@[simp] theorem State.joinTable_store (e : Entry) : (s.joinTable e).store = s.store := rfl
@[simp] theorem State.joinTable_spill (e : Entry) : (s.joinTable e).spill = s.spill := rfl
@[simp] theorem State.joinTable_clock (e : Entry) : (s.joinTable e).clock = s.clock := rfl
@[simp] theorem State.joinTable_conditions (e : Entry) : (s.joinTable e).conditions = s.conditions := rfl
@[simp] theorem State.joinTable_outputs (e : Entry) : (s.joinTable e).outputs = s.outputs := rfl
@[simp] theorem State.joinTable_freeIndex (e : Entry) : (s.joinTable e).freeIndex = s.freeIndex := rfl

/-! ## State.setHead -/

@[simp] theorem State.setHead_pending (h : HeadState) : (s.setHead h).pending = s.pending := rfl
@[simp] theorem State.setHead_held (h : HeadState) : (s.setHead h).held = s.held := rfl
@[simp] theorem State.setHead_config (h : HeadState) : (s.setHead h).config = s.config := rfl
@[simp] theorem State.setHead_transit (h : HeadState) : (s.setHead h).transit = s.transit := rfl
@[simp] theorem State.setHead_observer (h : HeadState) : (s.setHead h).observer = s.observer := rfl
@[simp] theorem State.setHead_watchStats (h : HeadState) : (s.setHead h).watchStats = s.watchStats := rfl
@[simp] theorem State.setHead_trigger (h : HeadState) : (s.setHead h).trigger = s.trigger := rfl
@[simp] theorem State.setHead_store (h : HeadState) :
    (s.setHead h).store =
      { s.store with directory := s.store.directory.modify 0 fun e => { e with state := h } } := rfl
@[simp] theorem State.setHead_spill (h : HeadState) : (s.setHead h).spill = s.spill := rfl
@[simp] theorem State.setHead_clock (h : HeadState) : (s.setHead h).clock = s.clock := rfl
@[simp] theorem State.setHead_conditions (h : HeadState) : (s.setHead h).conditions = s.conditions := rfl
@[simp] theorem State.setHead_outputs (h : HeadState) : (s.setHead h).outputs = s.outputs := rfl
@[simp] theorem State.setHead_freeIndex (h : HeadState) : (s.setHead h).freeIndex = s.freeIndex := rfl

/-! ## State.beginAttempt -/

@[simp] theorem State.beginAttempt_pending (e : EngineState) (a : Attempt) : (s.beginAttempt e a).pending = s.pending := rfl
@[simp] theorem State.beginAttempt_held (e : EngineState) (a : Attempt) : (s.beginAttempt e a).held = s.held := rfl
@[simp] theorem State.beginAttempt_config (e : EngineState) (a : Attempt) : (s.beginAttempt e a).config = s.config := rfl
@[simp] theorem State.beginAttempt_transit (e : EngineState) (a : Attempt) : (s.beginAttempt e a).transit = s.transit := rfl
@[simp] theorem State.beginAttempt_observer (e : EngineState) (a : Attempt) : (s.beginAttempt e a).observer = s.observer := rfl
@[simp] theorem State.beginAttempt_watchStats (e : EngineState) (a : Attempt) : (s.beginAttempt e a).watchStats = s.watchStats := rfl
@[simp] theorem State.beginAttempt_trigger (e : EngineState) (a : Attempt) : (s.beginAttempt e a).trigger = s.trigger := rfl
@[simp] theorem State.beginAttempt_store (e : EngineState) (a : Attempt) : (s.beginAttempt e a).store = s.store := rfl
@[simp] theorem State.beginAttempt_spill (e : EngineState) (a : Attempt) :
    (s.beginAttempt e a).spill =
      { s.spill with engine := e, attempt := some a } := rfl
@[simp] theorem State.beginAttempt_clock (e : EngineState) (a : Attempt) : (s.beginAttempt e a).clock = s.clock := rfl
@[simp] theorem State.beginAttempt_conditions (e : EngineState) (a : Attempt) : (s.beginAttempt e a).conditions = s.conditions := rfl
@[simp] theorem State.beginAttempt_outputs (e : EngineState) (a : Attempt) : (s.beginAttempt e a).outputs = s.outputs := rfl
@[simp] theorem State.beginAttempt_freeIndex (e : EngineState) (a : Attempt) : (s.beginAttempt e a).freeIndex = s.freeIndex := rfl

/-! ## State.restEngine -/

@[simp] theorem State.restEngine_pending (e : EngineState) : (s.restEngine e).pending = s.pending := rfl
@[simp] theorem State.restEngine_held (e : EngineState) : (s.restEngine e).held = s.held := rfl
@[simp] theorem State.restEngine_config (e : EngineState) : (s.restEngine e).config = s.config := rfl
@[simp] theorem State.restEngine_transit (e : EngineState) : (s.restEngine e).transit = s.transit := rfl
@[simp] theorem State.restEngine_observer (e : EngineState) : (s.restEngine e).observer = s.observer := rfl
@[simp] theorem State.restEngine_watchStats (e : EngineState) : (s.restEngine e).watchStats = s.watchStats := rfl
@[simp] theorem State.restEngine_trigger (e : EngineState) : (s.restEngine e).trigger = s.trigger := rfl
@[simp] theorem State.restEngine_store (e : EngineState) : (s.restEngine e).store = s.store := rfl
@[simp] theorem State.restEngine_spill (e : EngineState) :
    (s.restEngine e).spill =
      { s.spill with engine := e, attempt := none } := rfl
@[simp] theorem State.restEngine_clock (e : EngineState) : (s.restEngine e).clock = s.clock := rfl
@[simp] theorem State.restEngine_conditions (e : EngineState) : (s.restEngine e).conditions = s.conditions := rfl
@[simp] theorem State.restEngine_outputs (e : EngineState) : (s.restEngine e).outputs = s.outputs := rfl
@[simp] theorem State.restEngine_freeIndex (e : EngineState) : (s.restEngine e).freeIndex = s.freeIndex := rfl

/-! ## State.endAttempt -/

@[simp] theorem State.endAttempt_pending (e : EngineState) : (s.endAttempt e).pending = s.pending := rfl
@[simp] theorem State.endAttempt_held (e : EngineState) : (s.endAttempt e).held = s.held := rfl
@[simp] theorem State.endAttempt_config (e : EngineState) : (s.endAttempt e).config = s.config := rfl
@[simp] theorem State.endAttempt_transit (e : EngineState) : (s.endAttempt e).transit = s.transit := rfl
@[simp] theorem State.endAttempt_observer (e : EngineState) : (s.endAttempt e).observer = s.observer := rfl
@[simp] theorem State.endAttempt_watchStats (e : EngineState) : (s.endAttempt e).watchStats = s.watchStats := rfl
@[simp] theorem State.endAttempt_trigger (e : EngineState) : (s.endAttempt e).trigger = s.trigger := rfl
@[simp] theorem State.endAttempt_store (e : EngineState) : (s.endAttempt e).store = s.store := rfl
@[simp] theorem State.endAttempt_spill (e : EngineState) :
    (s.endAttempt e).spill =
      { s.spill with engine := e, attempt := none, tags := s.spill.tags.map TagState.toStale } := rfl
@[simp] theorem State.endAttempt_clock (e : EngineState) : (s.endAttempt e).clock = s.clock := rfl
@[simp] theorem State.endAttempt_conditions (e : EngineState) : (s.endAttempt e).conditions = s.conditions := rfl
@[simp] theorem State.endAttempt_outputs (e : EngineState) : (s.endAttempt e).outputs = s.outputs := rfl
@[simp] theorem State.endAttempt_freeIndex (e : EngineState) : (s.endAttempt e).freeIndex = s.freeIndex := rfl

/-! ## State.setProducer -/

@[simp] theorem State.setProducer_pending (p : Nat) (w : Word) : (s.setProducer p w).pending = s.pending := rfl
@[simp] theorem State.setProducer_held (p : Nat) (w : Word) : (s.setProducer p w).held = s.held := rfl
@[simp] theorem State.setProducer_config (p : Nat) (w : Word) : (s.setProducer p w).config = s.config := rfl
@[simp] theorem State.setProducer_transit (p : Nat) (w : Word) : (s.setProducer p w).transit = s.transit := rfl
@[simp] theorem State.setProducer_observer (p : Nat) (w : Word) : (s.setProducer p w).observer = s.observer := rfl
@[simp] theorem State.setProducer_watchStats (p : Nat) (w : Word) : (s.setProducer p w).watchStats = s.watchStats := rfl
@[simp] theorem State.setProducer_trigger (p : Nat) (w : Word) : (s.setProducer p w).trigger = s.trigger := rfl
@[simp] theorem State.setProducer_store (p : Nat) (w : Word) : (s.setProducer p w).store = s.store := rfl
@[simp] theorem State.setProducer_spill (p : Nat) (w : Word) :
    (s.setProducer p w).spill =
      { s.spill with producer := p, wrapCount := w } := rfl
@[simp] theorem State.setProducer_clock (p : Nat) (w : Word) : (s.setProducer p w).clock = s.clock := rfl
@[simp] theorem State.setProducer_conditions (p : Nat) (w : Word) : (s.setProducer p w).conditions = s.conditions := rfl
@[simp] theorem State.setProducer_outputs (p : Nat) (w : Word) : (s.setProducer p w).outputs = s.outputs := rfl
@[simp] theorem State.setProducer_freeIndex (p : Nat) (w : Word) : (s.setProducer p w).freeIndex = s.freeIndex := rfl

/-! ## State.freeTag -/

@[simp] theorem State.freeTag_pending (t : Nat) : (s.freeTag t).pending = s.pending := rfl
@[simp] theorem State.freeTag_held (t : Nat) : (s.freeTag t).held = s.held := rfl
@[simp] theorem State.freeTag_config (t : Nat) : (s.freeTag t).config = s.config := rfl
@[simp] theorem State.freeTag_transit (t : Nat) : (s.freeTag t).transit = s.transit := rfl
@[simp] theorem State.freeTag_observer (t : Nat) : (s.freeTag t).observer = s.observer := rfl
@[simp] theorem State.freeTag_watchStats (t : Nat) : (s.freeTag t).watchStats = s.watchStats := rfl
@[simp] theorem State.freeTag_trigger (t : Nat) : (s.freeTag t).trigger = s.trigger := rfl
@[simp] theorem State.freeTag_store (t : Nat) : (s.freeTag t).store = s.store := rfl
@[simp] theorem State.freeTag_spill (t : Nat) :
    (s.freeTag t).spill =
      { s.spill with tags := s.spill.tags.set t .free } := rfl
@[simp] theorem State.freeTag_clock (t : Nat) : (s.freeTag t).clock = s.clock := rfl
@[simp] theorem State.freeTag_conditions (t : Nat) : (s.freeTag t).conditions = s.conditions := rfl
@[simp] theorem State.freeTag_outputs (t : Nat) : (s.freeTag t).outputs = s.outputs := rfl
@[simp] theorem State.freeTag_freeIndex (t : Nat) : (s.freeTag t).freeIndex = s.freeIndex := rfl

/-! ## State.numbered -/

@[simp] theorem State.numbered_pending (o : Observation) : (s.numbered o).pending = s.pending := rfl
@[simp] theorem State.numbered_held (o : Observation) : (s.numbered o).held = s.held := rfl
@[simp] theorem State.numbered_config (o : Observation) : (s.numbered o).config = s.config := rfl
@[simp] theorem State.numbered_transit (o : Observation) : (s.numbered o).transit = s.transit := rfl
@[simp] theorem State.numbered_observer (o : Observation) :
    (s.numbered o).observer =
      { s.observer with sequence := s.observer.sequence + 1 } := rfl
@[simp] theorem State.numbered_watchStats (o : Observation) :
    (s.numbered o).watchStats =
      hitStats s.watchStats o := rfl
@[simp] theorem State.numbered_trigger (o : Observation) : (s.numbered o).trigger = s.trigger := rfl
@[simp] theorem State.numbered_store (o : Observation) : (s.numbered o).store = s.store := rfl
@[simp] theorem State.numbered_spill (o : Observation) : (s.numbered o).spill = s.spill := rfl
@[simp] theorem State.numbered_clock (o : Observation) : (s.numbered o).clock = s.clock := rfl
@[simp] theorem State.numbered_counters (o : Observation) :
    (s.numbered o).conditions.counters =
      s.conditions.counters.modify (Counter.index .observationsMade) satSucc := rfl
@[simp] theorem State.numbered_sticky (o : Observation) :
    (s.numbered o).conditions.sticky =
      s.conditions.sticky := rfl
@[simp] theorem State.numbered_alertEnable (o : Observation) :
    (s.numbered o).conditions.alertEnable =
      s.conditions.alertEnable := rfl
@[simp] theorem State.numbered_outputs (o : Observation) : (s.numbered o).outputs = s.outputs := rfl
@[simp] theorem State.numbered_freeIndex (o : Observation) : (s.numbered o).freeIndex = s.freeIndex := rfl

/-! ## State.enterRing -/

@[simp] theorem State.enterRing_pending (o : Observation) (claimed : Bool) : (s.enterRing o claimed).pending = s.pending := rfl
@[simp] theorem State.enterRing_held (o : Observation) (claimed : Bool) : (s.enterRing o claimed).held = s.held := rfl
@[simp] theorem State.enterRing_config (o : Observation) (claimed : Bool) : (s.enterRing o claimed).config = s.config := rfl
@[simp] theorem State.enterRing_transit (o : Observation) (claimed : Bool) : (s.enterRing o claimed).transit = s.transit := rfl
@[simp] theorem State.enterRing_observer (o : Observation) (claimed : Bool) :
    (s.enterRing o claimed).observer =
      { s.observer with ring := (RingEntry.mk o claimed :: s.observer.ring).take Config.ringEntries } := rfl
@[simp] theorem State.enterRing_watchStats (o : Observation) (claimed : Bool) : (s.enterRing o claimed).watchStats = s.watchStats := rfl
@[simp] theorem State.enterRing_trigger (o : Observation) (claimed : Bool) : (s.enterRing o claimed).trigger = s.trigger := rfl
@[simp] theorem State.enterRing_store (o : Observation) (claimed : Bool) : (s.enterRing o claimed).store = s.store := rfl
@[simp] theorem State.enterRing_spill (o : Observation) (claimed : Bool) : (s.enterRing o claimed).spill = s.spill := rfl
@[simp] theorem State.enterRing_clock (o : Observation) (claimed : Bool) : (s.enterRing o claimed).clock = s.clock := rfl
@[simp] theorem State.enterRing_conditions (o : Observation) (claimed : Bool) : (s.enterRing o claimed).conditions = s.conditions := rfl
@[simp] theorem State.enterRing_outputs (o : Observation) (claimed : Bool) : (s.enterRing o claimed).outputs = s.outputs := rfl
@[simp] theorem State.enterRing_freeIndex (o : Observation) (claimed : Bool) : (s.enterRing o claimed).freeIndex = s.freeIndex := rfl

/-! ## State.answer -/

@[simp] theorem State.answer_pending (f : Frame) (d : List Byte) (r : Result) : (s.answer f d r).pending = s.pending := rfl
@[simp] theorem State.answer_held (f : Frame) (d : List Byte) (r : Result) : (s.answer f d r).held = s.held := rfl
@[simp] theorem State.answer_config (f : Frame) (d : List Byte) (r : Result) :
    (s.answer f d r).config =
      { s.config with result := r } := rfl
@[simp] theorem State.answer_transit (f : Frame) (d : List Byte) (r : Result) : (s.answer f d r).transit = s.transit := rfl
@[simp] theorem State.answer_observer (f : Frame) (d : List Byte) (r : Result) : (s.answer f d r).observer = s.observer := rfl
@[simp] theorem State.answer_watchStats (f : Frame) (d : List Byte) (r : Result) : (s.answer f d r).watchStats = s.watchStats := rfl
@[simp] theorem State.answer_trigger (f : Frame) (d : List Byte) (r : Result) : (s.answer f d r).trigger = s.trigger := rfl
@[simp] theorem State.answer_store (f : Frame) (d : List Byte) (r : Result) : (s.answer f d r).store = s.store := rfl
@[simp] theorem State.answer_spill (f : Frame) (d : List Byte) (r : Result) : (s.answer f d r).spill = s.spill := rfl
@[simp] theorem State.answer_clock (f : Frame) (d : List Byte) (r : Result) : (s.answer f d r).clock = s.clock := rfl
@[simp] theorem State.answer_conditions (f : Frame) (d : List Byte) (r : Result) : (s.answer f d r).conditions = s.conditions := rfl
@[simp] theorem State.answer_outputs (f : Frame) (d : List Byte) (r : Result) :
    (s.answer f d r).outputs =
      { s.outputs with mdo := fitBytes f.bytes (s.config.result.byte :: 0 :: 0 :: d) } := rfl
@[simp] theorem State.answer_freeIndex (f : Frame) (d : List Byte) (r : Result) : (s.answer f d r).freeIndex = s.freeIndex := rfl

/-! ## State.replied -/

@[simp] theorem State.replied_pending (f : Frame) (d : List Byte) (r : Result) : (s.replied f d r).pending = s.pending := rfl
@[simp] theorem State.replied_held (f : Frame) (d : List Byte) (r : Result) : (s.replied f d r).held = s.held := rfl
@[simp] theorem State.replied_config (f : Frame) (d : List Byte) (r : Result) :
    (s.replied f d r).config =
      { s.config with result := r } := rfl
@[simp] theorem State.replied_transit (f : Frame) (d : List Byte) (r : Result) : (s.replied f d r).transit = s.transit := rfl
@[simp] theorem State.replied_observer (f : Frame) (d : List Byte) (r : Result) : (s.replied f d r).observer = s.observer := rfl
@[simp] theorem State.replied_watchStats (f : Frame) (d : List Byte) (r : Result) : (s.replied f d r).watchStats = s.watchStats := rfl
@[simp] theorem State.replied_trigger (f : Frame) (d : List Byte) (r : Result) : (s.replied f d r).trigger = s.trigger := rfl
@[simp] theorem State.replied_store (f : Frame) (d : List Byte) (r : Result) : (s.replied f d r).store = s.store := rfl
@[simp] theorem State.replied_spill (f : Frame) (d : List Byte) (r : Result) : (s.replied f d r).spill = s.spill := rfl
@[simp] theorem State.replied_clock (f : Frame) (d : List Byte) (r : Result) : (s.replied f d r).clock = s.clock := rfl
@[simp] theorem State.replied_conditions (f : Frame) (d : List Byte) (r : Result) : (s.replied f d r).conditions = s.conditions := rfl
@[simp] theorem State.replied_outputs (f : Frame) (d : List Byte) (r : Result) :
    (s.replied f d r).outputs =
      { upstream := [], mdo := fitBytes f.bytes (s.config.result.byte :: 0 :: 0 :: d) } := rfl
@[simp] theorem State.replied_freeIndex (f : Frame) (d : List Byte) (r : Result) : (s.replied f d r).freeIndex = s.freeIndex := rfl

/-! ## State.takeSnapshot -/

@[simp] theorem State.takeSnapshot_pending : s.takeSnapshot.pending = s.pending := rfl
@[simp] theorem State.takeSnapshot_held : s.takeSnapshot.held = s.held := rfl
@[simp] theorem State.takeSnapshot_config : s.takeSnapshot.config = s.config := rfl
@[simp] theorem State.takeSnapshot_transit : s.takeSnapshot.transit = s.transit := rfl
@[simp] theorem State.takeSnapshot_observer : s.takeSnapshot.observer = s.observer := rfl
@[simp] theorem State.takeSnapshot_watchStats : s.takeSnapshot.watchStats = s.watchStats := rfl
@[simp] theorem State.takeSnapshot_trigger : s.takeSnapshot.trigger = s.trigger := rfl
@[simp] theorem State.takeSnapshot_store : s.takeSnapshot.store = s.store := rfl
@[simp] theorem State.takeSnapshot_spill : s.takeSnapshot.spill = s.spill := rfl
@[simp] theorem State.takeSnapshot_clock :
    s.takeSnapshot.clock =
      { s.clock with snapshot := { raw := s.clock.raw, aligned := s.aligned, offset := s.clock.offset, epoch := s.clock.epoch } } := rfl
@[simp] theorem State.takeSnapshot_conditions : s.takeSnapshot.conditions = s.conditions := rfl
@[simp] theorem State.takeSnapshot_outputs : s.takeSnapshot.outputs = s.outputs := rfl
@[simp] theorem State.takeSnapshot_freeIndex : s.takeSnapshot.freeIndex = s.freeIndex := rfl

/-! ## State.armOnce -/

@[simp] theorem State.armOnce_pending : s.armOnce.pending = s.pending := rfl
@[simp] theorem State.armOnce_held : s.armOnce.held = s.held := rfl
@[simp] theorem State.armOnce_config : s.armOnce.config = s.config := rfl
@[simp] theorem State.armOnce_transit : s.armOnce.transit = s.transit := rfl
@[simp] theorem State.armOnce_observer : s.armOnce.observer = s.observer := rfl
@[simp] theorem State.armOnce_watchStats : s.armOnce.watchStats = s.watchStats := rfl
@[simp] theorem State.armOnce_trigger : s.armOnce.trigger = s.trigger := rfl
@[simp] theorem State.armOnce_store : s.armOnce.store = s.store := rfl
@[simp] theorem State.armOnce_spill : s.armOnce.spill = s.spill := rfl
@[simp] theorem State.armOnce_clock : s.armOnce.clock = { s.clock with once := true } := rfl
@[simp] theorem State.armOnce_conditions : s.armOnce.conditions = s.conditions := rfl
@[simp] theorem State.armOnce_outputs : s.armOnce.outputs = s.outputs := rfl
@[simp] theorem State.armOnce_freeIndex : s.armOnce.freeIndex = s.freeIndex := rfl

/-! ## State.endTrigout -/

@[simp] theorem State.endTrigout_pending : s.endTrigout.pending = s.pending := rfl
@[simp] theorem State.endTrigout_held : s.endTrigout.held = s.held := rfl
@[simp] theorem State.endTrigout_config : s.endTrigout.config = s.config := rfl
@[simp] theorem State.endTrigout_transit : s.endTrigout.transit = s.transit := rfl
@[simp] theorem State.endTrigout_observer : s.endTrigout.observer = s.observer := rfl
@[simp] theorem State.endTrigout_watchStats : s.endTrigout.watchStats = s.watchStats := rfl
@[simp] theorem State.endTrigout_trigger : s.endTrigout.trigger = { s.trigger with trigout := none } := rfl
@[simp] theorem State.endTrigout_store : s.endTrigout.store = s.store := rfl
@[simp] theorem State.endTrigout_spill : s.endTrigout.spill = s.spill := rfl
@[simp] theorem State.endTrigout_clock : s.endTrigout.clock = s.clock := rfl
@[simp] theorem State.endTrigout_conditions : s.endTrigout.conditions = s.conditions := rfl
@[simp] theorem State.endTrigout_outputs : s.endTrigout.outputs = s.outputs := rfl
@[simp] theorem State.endTrigout_freeIndex : s.endTrigout.freeIndex = s.freeIndex := rfl

/-! ## State.endReset -/

@[simp] theorem State.endReset_pending : s.endReset.pending = s.pending := rfl
@[simp] theorem State.endReset_held : s.endReset.held = false := rfl
@[simp] theorem State.endReset_config : s.endReset.config = s.config := rfl
@[simp] theorem State.endReset_transit : s.endReset.transit = s.transit := rfl
@[simp] theorem State.endReset_observer : s.endReset.observer = s.observer := rfl
@[simp] theorem State.endReset_watchStats : s.endReset.watchStats = s.watchStats := rfl
@[simp] theorem State.endReset_trigger : s.endReset.trigger = s.trigger := rfl
@[simp] theorem State.endReset_store : s.endReset.store = s.store := rfl
@[simp] theorem State.endReset_spill : s.endReset.spill = s.spill := rfl
@[simp] theorem State.endReset_clock : s.endReset.clock = s.clock := rfl
@[simp] theorem State.endReset_conditions : s.endReset.conditions = s.conditions := rfl
@[simp] theorem State.endReset_outputs : s.endReset.outputs = s.outputs := rfl
@[simp] theorem State.endReset_freeIndex : s.endReset.freeIndex = s.freeIndex := rfl

end Sys2Proof.Machine
end

