-- ==== Sys2Proof/Laws/Capture.lean ====
section
/-! SUPPORT. What observing and capturing leave alone: whatever an observation, a snoop offer, a fire, a close, a spill
placement or a hold episode does, the transit table, the queues, both channels, the configuration, the clock and the lines
out stay as they were. -/

namespace Sys2Proof.Machine

/-- `t` differs from `s` at most in the capture side: ring, statistics, trigger, store, spill engine, conditions, and the
hold timer and hold-expired state. -/
structure State.KeepsTraffic (s t : State) : Prop where
  pending : t.pending = s.pending
  held : t.held = s.held
  config : t.config = s.config
  clock : t.clock = s.clock
  outputs : t.outputs = s.outputs
  table : t.transit.table = s.transit.table
  upstream : t.transit.upstream = s.transit.upstream
  forwardQueue : t.transit.forwardQueue = s.transit.forwardQueue
  dPort : t.transit.dPort = s.transit.dPort
  runCount : t.transit.runCount = s.transit.runCount
  quiesceTimer : t.transit.quiesceTimer = s.transit.quiesceTimer
  abandoned : t.transit.abandoned = s.transit.abandoned
  takes : t.transit.takes = s.transit.takes

namespace State.KeepsTraffic

theorem rfl' (s : State) : s.KeepsTraffic s := by constructor <;> rfl

theorem trans {s t u : State} (h : s.KeepsTraffic t) (k : t.KeepsTraffic u) : s.KeepsTraffic u where
  pending := k.pending.trans h.pending
  held := k.held.trans h.held
  config := k.config.trans h.config
  clock := k.clock.trans h.clock
  outputs := k.outputs.trans h.outputs
  table := k.table.trans h.table
  upstream := k.upstream.trans h.upstream
  forwardQueue := k.forwardQueue.trans h.forwardQueue
  dPort := k.dPort.trans h.dPort
  runCount := k.runCount.trans h.runCount
  quiesceTimer := k.quiesceTimer.trans h.quiesceTimer
  abandoned := k.abandoned.trans h.abandoned
  takes := k.takes.trans h.takes

end State.KeepsTraffic

/-- `t` differs from `s` at most in the capture side, the sets and the loss watch: an apply may come between. -/
structure State.KeepsChannels (s t : State) : Prop where
  pending : t.pending = s.pending
  held : t.held = s.held
  outputs : t.outputs = s.outputs
  raw : t.clock.raw = s.clock.raw
  table : t.transit.table = s.transit.table
  upstream : t.transit.upstream = s.transit.upstream
  forwardQueue : t.transit.forwardQueue = s.transit.forwardQueue
  dPort : t.transit.dPort = s.transit.dPort
  runCount : t.transit.runCount = s.transit.runCount
  quiesceTimer : t.transit.quiesceTimer = s.transit.quiesceTimer
  abandoned : t.transit.abandoned = s.transit.abandoned
  takes : t.transit.takes = s.transit.takes

theorem State.KeepsTraffic.toChannels {s t : State} (h : s.KeepsTraffic t) : s.KeepsChannels t where
  pending := h.pending
  held := h.held
  outputs := h.outputs
  raw := congrArg TimeBase.raw h.clock
  table := h.table
  upstream := h.upstream
  forwardQueue := h.forwardQueue
  dPort := h.dPort
  runCount := h.runCount
  quiesceTimer := h.quiesceTimer
  abandoned := h.abandoned
  takes := h.takes

theorem State.KeepsChannels.trans {s t u : State} (h : s.KeepsChannels t) (k : t.KeepsChannels u) :
    s.KeepsChannels u where
  pending := k.pending.trans h.pending
  held := k.held.trans h.held
  outputs := k.outputs.trans h.outputs
  raw := k.raw.trans h.raw
  table := k.table.trans h.table
  upstream := k.upstream.trans h.upstream
  forwardQueue := k.forwardQueue.trans h.forwardQueue
  dPort := k.dPort.trans h.dPort
  runCount := k.runCount.trans h.runCount
  quiesceTimer := k.quiesceTimer.trans h.quiesceTimer
  abandoned := k.abandoned.trans h.abandoned
  takes := k.takes.trans h.takes

/-! ## Conditions, stages and hold -/

theorem State.raise_keeps (s : State) (k : Sticky) : s.KeepsTraffic (s.raise k) := by constructor <;> rfl
theorem State.count_keeps (s : State) (c : Counter) : s.KeepsTraffic (s.count c) := by constructor <;> rfl
theorem State.countBy_keeps (s : State) (c : Counter) (n : Nat) : s.KeepsTraffic (s.countBy c n) := by
  constructor <;> rfl
theorem State.clearCounters_keeps (s : State) : s.KeepsTraffic s.clearCounters := by constructor <;> rfl
theorem State.setTrigger_keeps (s : State) (t : TriggerState) : s.KeepsTraffic (s.setTrigger t) := by
  constructor <;> rfl
theorem State.enterStage_keeps (s : State) (n : Nat) : s.KeepsTraffic (s.enterStage n) := by constructor <;> rfl
theorem State.startEpisode_keeps (s : State) : s.KeepsTraffic s.startEpisode := by constructor <;> rfl
theorem State.expireHold_keeps (s : State) : s.KeepsTraffic s.expireHold := by constructor <;> rfl

theorem State.clearExpired_keeps (s : State) : s.KeepsTraffic s.clearExpired := by
  unfold State.clearExpired; split <;> constructor <;> rfl

theorem State.followHold_keeps (s : State) : s.KeepsTraffic s.followHold := by
  refine s.clearExpired_keeps.trans ?_
  unfold State.followHold
  dsimp only
  split
  · split
    · exact State.startEpisode_keeps _
    · exact .rfl' _
  · constructor <;> rfl

/-! ## The spill engine -/

theorem State.restEngine_keeps (s : State) (e : EngineState) : s.KeepsTraffic (s.restEngine e) := by
  constructor <;> rfl
theorem State.beginAttempt_keeps (s : State) (e : EngineState) (a : Attempt) : s.KeepsTraffic (s.beginAttempt e a) := by
  constructor <;> rfl
theorem State.setHead_keeps (s : State) (h : HeadState) : s.KeepsTraffic (s.setHead h) := by constructor <;> rfl
theorem State.endAttempt_keeps (s : State) (e : EngineState) : s.KeepsTraffic (s.endAttempt e) := by
  constructor <;> rfl

theorem State.placeHead_keeps (s : State) : s.KeepsTraffic s.placeHead := by
  unfold State.placeHead
  split
  · exact s.restEngine_keeps _
  · split
    · exact (s.restEngine_keeps _).trans (State.raise_keeps _ _)
    · exact (s.beginAttempt_keeps _ _).trans (State.setHead_keeps _ _)
    · exact s.beginAttempt_keeps _ _
    · exact s.restEngine_keeps _

theorem State.takeHead_keeps (s : State) : s.KeepsTraffic s.takeHead := by
  unfold State.takeHead
  split
  · exact s.placeHead_keeps
  · exact .rfl' _

theorem State.removeHead_keeps (s : State) : s.KeepsTraffic s.removeHead :=
  .trans (t := { s with store := { s.store with directory := s.store.directory.tail } }) (by constructor <;> rfl)
    (State.followHold_keeps _)

theorem State.judgeConsumer_keeps (s : State) (v : Nat) : s.KeepsTraffic (s.judgeConsumer v) := by
  unfold State.judgeConsumer
  split
  · refine .trans (t := { s with spill := { s.spill with consumer := v } }) (by constructor <;> rfl) ?_
    dsimp only
    split
    · exact State.placeHead_keeps _
    · exact .rfl' _
  · exact s.raise_keeps _

theorem State.consumerOffer_keeps (s : State) (sn : Snoop) : s.KeepsTraffic (s.consumerOffer sn) := by
  unfold State.consumerOffer
  split
  · exact .rfl' _
  · split
    · exact s.judgeConsumer_keeps _
    · exact s.count_keeps _

/-! ## Records -/

theorem State.leaveCapture_keeps (s : State) : s.KeepsTraffic s.leaveCapture := by
  unfold State.leaveCapture; split <;> constructor <;> rfl

theorem State.fileRecord_keeps (s : State) (r : OpenRecord) : s.KeepsTraffic (s.fileRecord r) := by
  unfold State.fileRecord; dsimp only; split <;> split <;> constructor <;> rfl

theorem State.closeRecord_keeps (s : State) (r : OpenRecord) : s.KeepsTraffic (s.closeRecord r) := by
  refine (s.fileRecord_keeps r).trans ?_
  unfold State.closeRecord
  dsimp only
  split
  · exact (State.setTrigger_keeps _ _).trans ((State.takeHead_keeps _).trans (State.followHold_keeps _))
  · exact (State.leaveCapture_keeps _).trans ((State.takeHead_keeps _).trans (State.followHold_keeps _))

theorem State.openFor_keeps (s : State) (c : TriggerCause) (b : Bool) : s.KeepsTraffic (s.openFor c b) := by
  constructor <;> rfl
theorem State.refuseFire_keeps (s : State) : s.KeepsTraffic s.refuseFire := by constructor <;> rfl
theorem State.retrigger_keeps (s : State) : s.KeepsTraffic s.retrigger := by constructor <;> rfl

theorem State.fire_keeps (s : State) (c : TriggerCause) (b : Bool) : s.KeepsTraffic (s.fire c b) := by
  unfold State.fire
  split
  · dsimp only
    split
    · exact (s.openFor_keeps c b).trans (State.closeRecord_keeps _ _)
    · exact (s.openFor_keeps c b).trans (State.followHold_keeps _)
  · exact s.refuseFire_keeps

theorem State.offer_keeps (s : State) (o : Observation) : s.KeepsTraffic (s.offer o).state := by
  unfold State.offer
  split
  · exact .rfl' _
  · split
    · constructor <;> rfl
    · dsimp only
      split
      · exact s.closeRecord_keeps _
      · split
        · exact s.closeRecord_keeps _
        · constructor <;> rfl

theorem State.abortRecord_keeps (s : State) : s.KeepsTraffic s.abortRecord := by
  unfold State.abortRecord
  split
  · exact s.closeRecord_keeps _
  · exact s.setTrigger_keeps _

/-! ## The trigger unit -/

theorem State.satisfyStage_keeps (s : State) (n : Nat) (b : Bool) : s.KeepsTraffic (s.satisfyStage n b) := by
  unfold State.satisfyStage
  split
  · exact s.enterStage_keeps _
  · exact s.fire_keeps _ _
  · exact .rfl' _

theorem State.evaluateTrigger_keeps (s : State) (o : Observation) : s.KeepsTraffic (s.evaluateTrigger o) := by
  unfold State.evaluateTrigger State.evaluateHits
  split
  · exact .rfl' _
  · dsimp only
    split
    · split
      · exact s.satisfyStage_keeps _ _
      · exact s.setTrigger_keeps _
    · split
      · exact s.satisfyStage_keeps _ _
      · exact .rfl' _
    · exact .rfl' _
    · exact .rfl' _
  · split
    · exact s.retrigger_keeps
    · exact .rfl' _

theorem State.triginEdgeSeen_keeps (s : State) : s.KeepsTraffic s.triginEdgeSeen := by
  unfold State.triginEdgeSeen
  split
  · split
    · exact s.satisfyStage_keeps _ _
    · exact .rfl' _
  · exact s.fire_keeps _ _
  · exact s.retrigger_keeps
  · exact s.retrigger_keeps
  · exact .rfl' _

theorem State.armUnit_keeps (s : State) : s.KeepsTraffic s.armUnit.1 := by
  unfold State.armUnit
  split
  · split
    · exact s.enterStage_keeps _
    · exact .rfl' _
  · exact .rfl' _
  · exact .rfl' _

theorem State.disarmUnit_keeps (s : State) : s.KeepsTraffic s.disarmUnit := by
  unfold State.disarmUnit
  split
  · exact .rfl' _
  · exact s.setTrigger_keeps _
  · exact s.abortRecord_keeps

theorem State.forceUnit_keeps (s : State) (c : TriggerCause) : s.KeepsTraffic (s.forceUnit c).1 := by
  unfold State.forceUnit
  split
  · exact .rfl' _
  · exact s.fire_keeps _ _
  · exact s.retrigger_keeps

/-! ## Observations and offers -/

theorem State.observationPath_keeps (s : State) (b : ObsBody) (d : Option Beat) :
    s.KeepsTraffic (s.observationPath b d) := by
  refine .trans (t := s.numbered (s.makeObservation b d)) (by constructor <;> rfl) ?_
  refine (State.offer_keeps _ (s.makeObservation b d)).trans ?_
  unfold State.observationPath
  dsimp only
  split
  · constructor <;> rfl
  · refine .trans ?_ (State.evaluateTrigger_keeps _ _)
    constructor <;> rfl

/-- Whatever an observation leads to, the traffic stays as it was. -/
theorem State.observe_keeps (s : State) (b : ObsBody) (d : Option Beat) : s.KeepsTraffic (s.observe b d) := by
  unfold State.observe
  split
  · exact s.observationPath_keeps b d
  · exact .rfl' _

/-- In PASS mode nothing is observed. -/
theorem State.observe_pass {s : State} (h : s.config.active.mode? = some .pass) (b : ObsBody) (d : Option Beat) :
    s.observe b d = s := by
  simp [State.observe, State.observes, h]

theorem State.decodeCommand_keeps (s : State) (v : Cell) : s.KeepsTraffic (s.decodeCommand v) := by
  unfold State.decodeCommand
  dsimp only
  repeat' split
  · exact s.armUnit_keeps.trans (State.count_keeps _ _)
  · exact s.disarmUnit_keeps.trans (State.count_keeps _ _)
  · exact (s.forceUnit_keeps _).trans (State.count_keeps _ _)
  · exact (s.observe_keeps _ _).trans (State.count_keeps _ _)
  · exact s.clearCounters_keeps.trans (State.count_keeps _ _)
  · exact s.raise_keeps _

/-- Whatever a snoop offer leads to, the traffic stays as it was. -/
theorem State.snoopOffer_keeps (s : State) (sn : Snoop) (i : Initiator) : s.KeepsTraffic (s.snoopOffer sn i) := by
  unfold State.snoopOffer State.commandOffer
  repeat' split
  · exact .rfl' _
  · exact s.count_keeps _
  · exact s.count_keeps _
  · exact s.decodeCommand_keeps _
  · exact s.consumerOffer_keeps sn

/-! ## A due apply -/

theorem State.applyTrigger_keeps (s : State) : s.KeepsTraffic s.applyTrigger := by
  unfold State.applyTrigger
  repeat' split
  · exact s.enterStage_keeps _
  · exact s.setTrigger_keeps _
  · exact .rfl' _
  · exact .rfl' _

theorem State.spillGeometryChanged_keeps (s : State) : s.KeepsTraffic s.spillGeometryChanged := by
  unfold State.spillGeometryChanged
  split <;> constructor <;> rfl

theorem State.applyHold_keeps (s : State) : s.KeepsTraffic s.applyHold := by
  refine s.followHold_keeps.trans ?_
  unfold State.applyHold
  dsimp only
  split
  · exact State.expireHold_keeps _
  · exact .rfl' _

theorem State.applyLossWatch_keeps (s : State) : s.KeepsChannels s.applyLossWatch := by
  unfold State.applyLossWatch; split <;> constructor <;> rfl

/-- An apply leaves the channels, the queues and the table as they were. -/
theorem State.takeEffect_keeps (s : State) : s.KeepsChannels s.takeEffect := by
  have hi : s.KeepsChannels s.installStaged := by constructor <;> rfl
  have ht := hi.trans s.installStaged.applyTrigger_keeps.toChannels
  unfold State.takeEffect
  dsimp only
  split
  · exact (ht.trans (State.spillGeometryChanged_keeps _).toChannels).trans
      ((State.applyLossWatch_keeps _).trans
        ((State.applyHold_keeps _).toChannels.trans (State.raise_keeps _ _).toChannels))
  · exact ht.trans ((State.applyLossWatch_keeps _).trans
      ((State.applyHold_keeps _).toChannels.trans (State.raise_keeps _ _).toChannels))

theorem State.takeDueApply_keeps (s : State) : s.KeepsChannels s.takeDueApply := by
  unfold State.takeDueApply
  split
  · exact s.takeEffect_keeps
  · exact (State.KeepsTraffic.rfl' s).toChannels

/-- Whatever a response leads to beside its entry, the channels, the queues and the table stay as they were, whichever comes
first and whether or not an apply comes between. -/
theorem State.observeAndOffer_keeps (s : State) (b : ObsBody) (d : Option Beat) (o : Option Snoop) (i : Initiator) :
    s.KeepsChannels (s.observeAndOffer b d o i) := by
  have hs : s.KeepsChannels (s.spendChoices 1) := by constructor <;> rfl
  unfold State.observeAndOffer
  split
  · exact (s.observe_keeps b d).toChannels
  · dsimp only
    split
    · exact hs.trans ((State.observe_keeps _ b d).toChannels.trans
        ((State.takeDueApply_keeps _).trans (State.snoopOffer_keeps _ _ i).toChannels))
    · exact hs.trans ((State.snoopOffer_keeps _ _ i).toChannels.trans
        ((State.takeDueApply_keeps _).trans (State.observe_keeps _ b d).toChannels))

end Sys2Proof.Machine
end

