-- ==== Sys2Proof/Laws/Events.lean ====
section
/-! SUPPORT. What an event and a frame do at the part: the lemmas the statements about commands go through. -/

namespace Sys2Proof.Machine

theorem State.applyDue_beginEvent (s : State) : s.beginEvent.applyDue = s.applyDue := rfl

theorem State.takeDueApply_of_not_due {s : State} (h : s.applyDue = false) : s.takeDueApply = s := by
  simp [State.takeDueApply, h]

/-- While the part runs, an event is its effect on the state whose response channel is empty. -/
theorem onEvent_running {s : State} (h : s.running) (k : State → State) : onEvent s k = .next (k s.beginEvent) := by
  have hd : s.beginEvent.applyDue = false := h.2
  simp [onEvent, h.1, State.takeDueApply_of_not_due hd]

theorem onEvent_held {s : State} (h : s.held = true) (k : State → State) : onEvent s k = .next s := by
  simp [onEvent, h]

/-- A frame the port takes ends with its command's effect and result. -/
theorem State.frame_taken {s : State} {f : Frame} {need : Nat} (h : s.takesFrame f need)
    (act : State → State × Result) :
    s.beginEvent.frame f need act = (act s.beginEvent).1.answer f [] (act s.beginEvent).2 := by
  obtain ⟨-, hq, hb, h1, hn⟩ := h
  have hq' : s.beginEvent.quiescing = false := hq
  have h0 : f.bytes ≠ 0 := by omega
  have hlt : ¬ f.bytes < need := by omega
  simp [State.frame, State.judgesBusy, hq', hb, h0, hlt]

theorem State.doneFrame_taken {s : State} {f : Frame} {need : Nat} (h : s.takesFrame f need) (act : State → State) :
    s.beginEvent.doneFrame f need act = (act s.beginEvent).answer f [] .done :=
  State.frame_taken h _

/-- A frame that changes nothing but the result register. -/
theorem State.answer_beginEvent (s : State) (f : Frame) (data : List Byte) (r : Result) :
    s.beginEvent.answer f data r = s.replied f data r := rfl

theorem State.frame_busy {s : State} {f : Frame} (h1 : 1 ≤ f.bytes) (hb : s.judgesBusy f = true) (need : Nat)
    (act : State → State × Result) : s.frame f need act = s.answer f [] .busy := by
  have h0 : f.bytes ≠ 0 := by omega
  simp [State.frame, h0, hb]

theorem State.frame_short {s : State} {f : Frame} {need : Nat} (h1 : 1 ≤ f.bytes) (hb : s.judgesBusy f = false)
    (hn : f.bytes < need) (act : State → State × Result) : s.frame f need act = s.answer f [] .refused := by
  have h0 : f.bytes ≠ 0 := by omega
  simp [State.frame, h0, hb, hn]

theorem State.frame_empty {s : State} {f : Frame} (h0 : f.bytes = 0) (need : Nat) (act : State → State × Result) :
    s.frame f need act = s.emptyFrame := by
  simp [State.frame, h0]

end Sys2Proof.Machine
end

