-- ==== Sys2Proof/Laws/Formats.lean ====
section
/-! SUPPORT. The bits of a field in a cell, a memory word, a configuration word; and the CRC-32 in its reflected form, which
the model computes, against the form that R182's generator gives. -/

namespace Sys2Proof.Machine

/-! ## Bits of a field -/

theorem getLsbD_shifted {w n : Nat} (lo : Nat) (x : BitVec n) {k : Nat} (hk : k < w) :
    (x.setWidth w <<< lo).getLsbD k = (lo ≤ k && k < lo + n && x.toNat.testBit (k - lo)) := by
  rw [BitVec.getLsbD_shiftLeft, BitVec.getLsbD_setWidth, BitVec.testBit_toNat]
  by_cases h : lo ≤ k
  · by_cases h2 : k < lo + n
    · simp [h, h2, hk, show ¬k < lo by omega, show k - lo < w by omega]
    · simp [h, h2]
      intros
      exact BitVec.getLsbD_of_ge x _ (by omega)
  · simp [h]

/-- A cell field has its value's bits at its place and no other bit. -/
theorem getLsbD_cellField {n : Nat} (lo : Nat) (x : BitVec n) {k : Nat} (hk : k < 64) :
    (cellField lo x).getLsbD k = (lo ≤ k && k < lo + n && x.toNat.testBit (k - lo)) :=
  getLsbD_shifted lo x hk

/-- A cell field that a number fills has the number's low bits. -/
theorem getLsbD_cellField_ofNat (n lo x : Nat) {k : Nat} (hk : k < 64) :
    (cellField lo (BitVec.ofNat n x)).getLsbD k = (lo ≤ k && k < lo + n && x.testBit (k - lo)) := by
  rw [getLsbD_cellField _ _ hk, BitVec.toNat_ofNat, Nat.testBit_mod_two_pow]
  by_cases h : lo ≤ k ∧ k < lo + n
  · simp [h.1, h.2, show k - lo < n by omega]
  · rcases not_and_or.1 h with h | h <;> simp [h]

/-- A cell flag is a field of one bit. -/
theorem getLsbD_cellFlag (lo : Nat) (b : Bool) {k : Nat} (hk : k < 64) :
    (cellFlag lo b).getLsbD k = (lo ≤ k && k < lo + 1 && b.toNat.testBit (k - lo)) := by
  rw [cellFlag, getLsbD_shifted _ _ hk, BitVec.toNat_ofBool]

/-- A field of a 32-bit word has its value's bits at its place and no other bit. -/
theorem getLsbD_putField {n : Nat} (lo : Nat) (x : BitVec n) {k : Nat} (hk : k < 32) :
    (putField lo x).getLsbD k = (lo ≤ k && k < lo + n && x.toNat.testBit (k - lo)) :=
  getLsbD_shifted lo x hk

/-- A flag of a 32-bit word is a field of one bit. -/
theorem getLsbD_putFlag (lo : Nat) (b : Bool) {k : Nat} (hk : k < 32) :
    (putFlag lo b).getLsbD k = (lo ≤ k && k < lo + 1 && b.toNat.testBit (k - lo)) := by
  rw [putFlag, getLsbD_shifted _ _ hk, BitVec.toNat_ofBool]

/-! ## The CRC-32 -/

/-- A bit that enters the reflected register. -/
def crcInput (b : Bool) : Word := (BitVec.ofBool b).setWidth 32

theorem crcInput_shift (b : Bool) : crcInput b >>> 1 = 0 := by cases b <;> decide

theorem reverse_shiftLeft (r : Word) : (r <<< 1).reverse = r.reverse >>> 1 := by
  apply BitVec.eq_of_getLsbD_eq
  intro j hj
  simp [BitVec.getLsbD_reverse]
  rw [Nat.add_comm 1 j]

theorem reverse_xor (a b : Word) : (a ^^^ b).reverse = a.reverse ^^^ b.reverse := by
  apply BitVec.eq_of_getLsbD_eq
  intro j hj
  simp [BitVec.getLsbD_reverse]

theorem reverse_generator : (0x04C11DB7 : Word).reverse = 0xEDB88320 := by decide +kernel

theorem reverse_allOnes : (BitVec.allOnes 32).reverse = BitVec.allOnes 32 := by decide +kernel

/-- One bit of the generator's form, seen reflected. -/
theorem reverse_crcShift (r : Word) (b : Bool) : (crcShift r b).reverse = crcBit (r.reverse ^^^ crcInput b) := by
  have h0 : (r.reverse ^^^ crcInput b).getLsbD 0 = (r.msb != b) := by
    rw [BitVec.getLsbD_xor, BitVec.getLsbD_reverse, BitVec.msb]
    cases b <;> simp [crcInput]
  have hs : (r.reverse ^^^ crcInput b) >>> 1 = r.reverse >>> 1 := by
    rw [BitVec.ushiftRight_xor_distrib, crcInput_shift]
    simp
  unfold crcShift crcBit
  rw [h0, hs]
  split
  · rw [reverse_xor, reverse_shiftLeft, reverse_generator]
  · exact reverse_shiftLeft r

/-- The reflected bit step is linear. -/
theorem crcBit_xor (a b : Word) : crcBit (a ^^^ b) = crcBit a ^^^ crcBit b := by
  unfold crcBit
  rw [BitVec.getLsbD_xor, BitVec.ushiftRight_xor_distrib]
  have swap : ∀ x y z : Word, x ^^^ y ^^^ z = x ^^^ z ^^^ y := fun x y z => by
    rw [BitVec.xor_assoc, BitVec.xor_comm y, ← BitVec.xor_assoc]
  cases a.getLsbD 0 <;> cases b.getLsbD 0 <;> simp
  · rw [BitVec.xor_assoc]
  · rw [swap]
  · rw [← BitVec.xor_assoc, swap _ _ (b >>> 1), BitVec.xor_assoc (_ ^^^ _)]
    simp

/-- The lowest of the bits in the register is used, and the others wait one place lower. -/
theorem crcBit_input (c d : Word) : crcBit (c ^^^ d) = crcBit (c ^^^ crcInput (d.getLsbD 0)) ^^^ (d >>> 1) := by
  have hd : d = crcInput (d.getLsbD 0) ^^^ (d ^^^ crcInput (d.getLsbD 0)) := by
    rw [BitVec.xor_comm d, ← BitVec.xor_assoc]
    simp
  have h0 : (d ^^^ crcInput (d.getLsbD 0)).getLsbD 0 = false := by
    rw [BitVec.getLsbD_xor]
    cases d.getLsbD 0 <;> simp [crcInput]
  have even : ∀ a : Word, a.getLsbD 0 = false → crcBit a = a >>> 1 := fun a h => by
    unfold crcBit
    rw [h]
    simp
  conv_lhs => rw [hd, ← BitVec.xor_assoc, crcBit_xor]
  rw [even _ h0, BitVec.ushiftRight_xor_distrib, crcInput_shift]
  simp

/-- A byte's step takes its bits one by one, least significant first. -/
theorem crcByte_bits (c : Word) (b : Byte) :
    crcByte c b = ((List.range 8).map b.getLsbD).foldl (fun x bit => crcBit (x ^^^ crcInput bit)) c := by
  have g : ∀ k, (b.setWidth 32 >>> k : Word).getLsbD 0 = b.getLsbD k := by
    intro k
    simp
    intro h
    have := BitVec.lt_of_getLsbD h
    omega
  have z : (b.setWidth 32 : Word) >>> (1 + 1 + 1 + 1 + 1 + 1 + 1 + 1) = 0 := by
    apply BitVec.eq_of_getLsbD_eq
    intro i hi
    simp
  unfold crcByte
  rw [show List.range 8 = [0, 1, 2, 3, 4, 5, 6, 7] from rfl]
  simp only [List.foldl_cons, List.foldl_nil, List.map_cons, List.map_nil]
  rw [crcBit_input c, show (b.setWidth 32 : Word).getLsbD 0 = b.getLsbD 0 from g 0]
  iterate 7 rw [crcBit_input _ (_ >>> _), g, ← BitVec.shiftRight_add]
  rw [z]
  simp

/-- The reflected CRC-32 is the one that R182's parameters give. -/
theorem crc32_eq_crcByGenerator (bytes : List Byte) : crc32 bytes = crcByGenerator bytes := by
  have bits : ∀ (l : List Bool) (r : Word),
      (l.foldl crcShift r).reverse = l.foldl (fun x bit => crcBit (x ^^^ crcInput bit)) r.reverse := by
    intro l
    induction l with
    | nil => exact fun r => rfl
    | cons b l ih => exact fun r => by rw [List.foldl_cons, ih, reverse_crcShift, List.foldl_cons]
  have all : ∀ (bs : List Byte) (r : Word),
      ((bs.flatMap fun b => (List.range 8).map b.getLsbD).foldl crcShift r).reverse = bs.foldl crcByte r.reverse := by
    intro bs
    induction bs with
    | nil => exact fun r => rfl
    | cons b bs ih =>
      exact fun r => by rw [List.flatMap_cons, List.foldl_append, ih, bits, List.foldl_cons, crcByte_bits]
  rw [crc32, crcByGenerator, all, reverse_allOnes]

end Sys2Proof.Machine
end

