-- ==== Sys2Proof/Laws/Observe.lean ====
section
/-! SUPPORT. When an observation is made and what its path is, said in the terms of the statements, and what the fields
beside the capture side's own are after a hold is followed. -/

namespace Sys2Proof.Machine

/-- No observation is made exactly where the unit's own test says so. -/
theorem State.makesNone_iff (s : State) (b : ObsBody) : s.makesNone b ↔ s.observes b = false := by
  unfold State.observes ObsBody.inQuietRegion insideRegion
  cases hm : (s.config.active.mode? == some .observe)
  · have : s.config.active.mode? ≠ some .observe := by simpa using hm
    simp [State.makesNone, this]
  · have : s.config.active.mode? = some .observe := by simpa using hm
    simp only [State.makesNone, this, ne_eq, not_true_eq_false, false_or, Bool.true_and]
    cases b.address <;> cases b.beats <;> simp
    intro _
    cases s.config.active.ringValid <;> simp
    constructor
    · rintro (h | h)
      · intro _; omega
      · exact fun _ => h
    · intro h
      by_contra hc
      push Not at hc
      obtain ⟨h1, h2⟩ := hc
      have h3 := h (by by_contra h4; push Not at h4; have := h1 h4.1; omega)
      have h5 := h2 h3.1 h3.2.1
      omega

/-- The observation the unit makes. -/
theorem State.makeObservation_eq (s : State) (b : ObsBody) (beat : Option Beat) :
    s.makeObservation b beat = s.observationOf b beat := by
  unfold State.makeObservation State.observationOf State.aligned capturesData
  simp only [List.any_eq_true, Bool.and_eq_true]

/-- An event that makes no observation changes nothing. -/
theorem State.observe_of_makesNone {s : State} {b : ObsBody} (beat : Option Beat) (h : s.makesNone b) :
    s.observe b beat = s := by
  simp [State.observe, (s.makesNone_iff b).1 h]

/-- An event that makes an observation runs its path: numbered and tested, offered to the open record, into the ring, and
evaluated unless it closed the record (R40, R42). -/
theorem State.observe_path {s : State} {b : ObsBody} (beat : Option Beat) (h : ¬s.makesNone b) :
    s.observe b beat =
      (let o := s.observationOf b beat
       let r := (s.numbered o).offer o
       let t := r.state.enterRing o r.claimed
       if r.closed then t else t.evaluateTrigger o) := by
  have hb : s.observes b = true := by
    cases hh : s.observes b
    · exact absurd ((s.makesNone_iff b).2 hh) h
    · rfl
  rw [State.observe, if_pos hb, State.observationPath, s.makeObservation_eq]

/-! ## Following a hold -/

@[simp] theorem State.clearExpired_store (s : State) : s.clearExpired.store = s.store := by
  unfold State.clearExpired; split <;> rfl

@[simp] theorem State.clearExpired_spill (s : State) : s.clearExpired.spill = s.spill := by
  unfold State.clearExpired; split <;> rfl

@[simp] theorem State.followHold_store (s : State) : s.followHold.store = s.store := by
  have h := s.clearExpired_store
  unfold State.followHold; dsimp only; split
  · split <;> exact h
  · exact h

@[simp] theorem State.followHold_spill (s : State) : s.followHold.spill = s.spill := by
  have h := s.clearExpired_spill
  unfold State.followHold; dsimp only; split
  · split <;> exact h
  · exact h

/-- Hold does not read the spill engine. -/
theorem State.followHold_withSpill (s : State) (e : SpillEngine) :
    ({ s with spill := e } : State).followHold = { s.followHold with spill := e } := by
  have h : ({ s with spill := e } : State).clearExpired = { s.clearExpired with spill := e } := by
    unfold State.clearExpired
    change (if s.storeLow then _ else _) = _
    split <;> rfl
  unfold State.followHold
  rw [h]
  change (if s.clearExpired.holdInForce then _ else _) = _
  dsimp only
  split
  · split <;> rfl
  · rfl

/-- Where HOLD cannot come into force and no episode lasts, following it changes nothing. -/
theorem State.followHold_quiet {s : State} (hp : s.config.active.capturePolicy? = some .skip)
    (ht : s.transit.holdTimer = none) (he : s.transit.holdExpired = false) : s.followHold = s := by
  obtain ⟨_, _, _, t, _, _, _, _, _, _, _, _, _⟩ := s
  obtain ⟨_, _, _, _, _, _, _, _, _, _⟩ := t
  simp only at hp ht he
  subst ht he
  unfold State.followHold State.clearExpired
  simp [State.holdInForce, hp]

end Sys2Proof.Machine
end

