-- ==== Sys2Proof/Laws/Spill.lean ====
section
/-! SUPPORT. The spill engine's shared operations: when a head is taken and what its placement leaves, what a close and a fire
leave, what a hold leaves in an empty store, and that a record's bursts carry its cells, in order, each inside one 4096-byte
page. -/

namespace Sys2Proof.Machine

/-- An engine that is not IDLE takes no head. -/
theorem State.takeHead_busy {s : State} (h : s.spill.engine ≠ .idle) : s.takeHead = s := by
  simp [State.takeHead, h]

/-- With no record there is no head to take. -/
theorem State.takeHead_empty {s : State} (h : s.store.directory = []) : s.takeHead = s := by
  simp [State.takeHead, h]

/-- What a placement of the head leaves. -/
theorem State.placeHead_eq {s : State} {h : DirectoryEntry} {rest : List DirectoryEntry}
    (hd : s.store.directory = h :: rest) : s.placeHead = s.headPlaced h rest := by
  unfold State.placeHead State.headPlaced
  rw [hd]
  dsimp only
  unfold State.spillFree
  split <;> simp only [*]
  all_goals first | rfl | skip
  unfold State.setHead State.beginAttempt
  simp only [hd]
  rfl

/-- The tag of a stale publish, as the engine tests for it. -/
theorem State.stalePublishInUse_iff (s : State) :
    s.stalePublishInUse ↔ s.spill.tags.any TagState.isStalePublish = true := by
  have h : ∀ g ∈ s.spill.tags, (match g with
      | .inUse u => u.stale && u.role != .body
      | .lost => false
      | .free => false) = g.isStalePublish := by
    intro g _
    unfold TagState.isStalePublish
    cases g with
    | inUse u =>
      obtain ⟨role, stale, taken⟩ := u
      cases role <;> simp
    | lost => rfl
    | free => rfl
  unfold State.stalePublishInUse
  rw [List.any_eq_true, List.any_eq_true]
  exact ⟨fun ⟨g, hm, hg⟩ => ⟨g, hm, (h g hm).symm.trans hg⟩, fun ⟨g, hm, hg⟩ => ⟨g, hm, (h g hm).trans hg⟩⟩

/-- An IDLE engine takes a waiting head and places it (R117). -/
theorem State.takeHead_places {s : State} {h : DirectoryEntry} {rest : List DirectoryEntry}
    (hd : s.store.directory = h :: rest) (hi : s.spill.engine = .idle) (hs : ¬s.stalePublishInUse) :
    s.takeHead = s.headPlaced h rest := by
  rw [s.stalePublishInUse_iff] at hs
  unfold State.takeHead
  rw [if_pos ⟨hi, by simp [hd], by simpa using hs⟩, State.placeHead_eq hd]

/-- While a stale publish is in use no head is taken (R131). -/
theorem State.takeHead_stale {s : State} (hs : s.stalePublishInUse) : s.takeHead = s := by
  rw [s.stalePublishInUse_iff] at hs
  unfold State.takeHead
  rw [if_neg]
  rintro ⟨-, -, h⟩
  simp [hs] at h

/-- What taking the head does, in one line: nothing, or a placement. -/
theorem State.takeHead_eq (s : State) : s.takeHead = match s.store.directory with
    | h :: rest => if s.spill.engine = .idle ∧ ¬s.stalePublishInUse then s.headPlaced h rest else s
    | [] => s := by
  split
  · rename_i h rest hd
    split
    · rename_i hc
      exact State.takeHead_places hd hc.1 hc.2
    · rename_i hc
      by_cases hi : s.spill.engine = .idle
      · exact State.takeHead_stale (by simpa [hi] using hc)
      · exact State.takeHead_busy hi
  · rename_i hd
    exact State.takeHead_empty hd

/-- What a close leaves, an aborted one in DISARMED, a completed one where the repeat mode says (R75, R76, R100). -/
theorem State.closeRecord_eq (s : State) (r : OpenRecord) :
    s.closeRecord r = s.recordClosed r (if r.aborted then .disarmed else s.afterCapture) := by
  unfold State.closeRecord State.recordClosed State.fileRecord
  dsimp only
  rw [State.takeHead_eq]
  unfold State.leaveCapture State.afterCapture
  cases r.truncated <;> cases r.aborted <;> by_cases h : s.config.active.repeatMode? = some .repeating <;>
    simp [h, State.count, State.enterStage, State.setTrigger, freshStage, stageZero, State.stalePublishInUse] <;> rfl

/-- What a fire leaves (R70, R71, R97). -/
theorem State.fire_gives (s : State) (cause : TriggerCause) (w : Bool) : s.fireGives cause w (s.fire cause w) := by
  have ho : s.openFor cause w = s.recordOpened cause w := by
    unfold State.openFor State.recordOpened State.newRecord walkLimit
    cases w <;> rfl
  have hn : (s.recordOpened cause w).store.openRecord = some (s.newRecord cause w) := by rw [← ho]; rfl
  have hc : (s.recordOpened cause w).config = s.config := rfl
  unfold State.fireGives State.fire State.fireFits
  refine ⟨fun h => ?_, fun h1 h2 h3 => ?_, fun h1 h2 h3 r hr => ?_⟩
  · rcases h with h | h
    · simp [Nat.not_le.mpr h]
      rfl
    · simp [Config.directoryEntries, Nat.not_lt.mpr h]
      rfl
  · simp only [Config.directoryEntries, h1, h2, decide_true, Bool.and_self, if_true, if_neg h3, ho]
  · rw [hn] at hr
    cases hr
    simp [Config.directoryEntries, h1, h2, h3, ho, State.closeRecord_eq, State.afterCapture, hc, State.newRecord]

/-! ## A frame's answer meets none of the store, the engine and hold -/

theorem State.answer_followHold (s : State) (f : Frame) (data : List Byte) (r : Result) :
    s.followHold.answer f data r = (s.answer f data r).followHold := by
  have h : (s.answer f data r).clearExpired = s.clearExpired.answer f data r := by
    unfold State.clearExpired
    change (if s.storeLow then _ else _) = _
    split <;> rfl
  unfold State.followHold
  dsimp only
  rw [h]
  change _ = if s.clearExpired.holdInForce = true then _ else _
  split
  · change _ = if (s.clearExpired.transit.holdTimer.isNone && s.clearExpired.transit.upstream.isSome) = true then _ else _
    split <;> rfl
  · rfl

theorem State.answer_headPlaced (s : State) (h : DirectoryEntry) (rest : List DirectoryEntry) (f : Frame)
    (data : List Byte) (r : Result) :
    (s.headPlaced h rest).answer f data r = (s.answer f data r).headPlaced h rest := by
  unfold State.headPlaced State.answer
  dsimp only
  cases placement s.config.active.area s.spill.producer
    (ringFree s.config.active.area s.spill.producer s.spill.consumer) h.cells.length s.spill.wrapCount <;> rfl

theorem State.answer_takeHead (s : State) (f : Frame) (data : List Byte) (r : Result) :
    s.takeHead.answer f data r = (s.answer f data r).takeHead := by
  rw [s.takeHead_eq, State.takeHead_eq]
  change _ = match s.store.directory with
    | h :: rest => if s.spill.engine = EngineState.idle ∧ ¬s.stalePublishInUse then (s.answer f data r).headPlaced h rest
        else s.answer f data r
    | [] => s.answer f data r
  split
  · split
    · exact s.answer_headPlaced _ _ _ _ _
    · rfl
  · rfl

theorem State.answer_closeRecord (s : State) (o : OpenRecord) (f : Frame) (data : List Byte) (r : Result) :
    (s.closeRecord o).answer f data r = (s.answer f data r).closeRecord o := by
  unfold State.closeRecord
  dsimp only
  rw [State.answer_followHold, State.answer_takeHead]
  congr 2
  unfold State.fileRecord State.leaveCapture
  cases o.truncated <;> cases o.aborted <;> by_cases h : s.config.active.repeatMode? = some .repeating <;>
    simp [h, State.count, State.setTrigger, State.enterStage, State.answer]

theorem State.answer_fire (s : State) (cause : TriggerCause) (w : Bool) (f : Frame) (data : List Byte) (r : Result) :
    (s.fire cause w).answer f data r = (s.answer f data r).fire cause w := by
  unfold State.fire
  change _ = if s.fireFits then
      (if s.config.active.postCount = 0 then
        ((s.openFor cause w).answer f data r).closeRecord (s.newRecord cause w)
      else ((s.openFor cause w).answer f data r).followHold)
    else (s.answer f data r).refuseFire
  split
  · dsimp only
    split
    · exact State.answer_closeRecord _ _ _ _ _
    · exact State.answer_followHold _ _ _ _
  · rfl

/-- The reservation never exceeds the record store: MAX_OBS has 11 bits. -/
theorem ParamSet.reservation_le (p : ParamSet) : p.reservation ≤ 16384 := by
  have h := p.maxObs.isLt
  have hd : p.dataCells ≤ 1 := by unfold ParamSet.dataCells; split <;> omega
  have hm : p.maxObs.toNat * (3 + p.dataCells) ≤ 2047 * 4 := Nat.mul_le_mul (by omega) (by omega)
  unfold ParamSet.reservation
  omega

/-- An empty store has room for a fire, so STORE_LOW is clear. -/
theorem State.storeLow_empty {s : State} (h : s.store.directory = []) (hr : s.store.reservation = 0) :
    s.storeLow = false := by
  have := s.config.active.reservation_le
  simp [State.storeLow, State.fireFits, State.freeCells, h, hr, cellsOf, Config.storeCells, Config.directoryEntries,
    this]

/-! ## Bursts (R118) -/

theorem burstCells_pos {address n : Nat} (h8 : address % 8 = 0) (hn : 0 < n) : 1 ≤ burstCells address n := by
  unfold burstCells
  have h1 : address % 4096 < 4096 := Nat.mod_lt _ (by decide)
  have h2 : address % 4096 % 8 = 0 := by omega
  omega

theorem burstCells_le (address n : Nat) : burstCells address n ≤ n ∧ burstCells address n ≤ 16 := by
  unfold burstCells; omega

/-- The bursts of a record carry its cells, each once and in order. -/
theorem cutBursts_cells : ∀ (n address : Nat) (cells : List Cell), address % 8 = 0 → cells.length ≤ n →
    (cutBursts n address cells).flatMap (·.cells) = cells
  | 0, _, cells, _, h => by
    have : cells = [] := List.eq_nil_of_length_eq_zero (by omega)
    simp [cutBursts, this]
  | n + 1, address, cells, h8, h => by
    cases cells with
    | nil => simp [cutBursts]
    | cons c cs =>
      have hp := burstCells_pos (n := (c :: cs).length) h8 (by simp)
      have ih := cutBursts_cells n (address + 8 * burstCells address (c :: cs).length)
        ((c :: cs).drop (burstCells address (c :: cs).length)) (by omega) (by simp at h ⊢; simp at hp; omega)
      unfold cutBursts
      simp only [List.isEmpty_cons, Bool.false_eq_true, if_false, List.flatMap_cons, ih, List.take_append_drop]

/-- Every burst of a record has 1 to 16 cells and stays inside one 4096-byte page. -/
theorem cutBursts_inPage : ∀ (n address : Nat) (cells : List Cell), address % 8 = 0 →
    ∀ w ∈ cutBursts n address cells,
      1 ≤ w.cells.length ∧ w.cells.length ≤ 16 ∧ w.address % 4096 + 8 * w.cells.length ≤ 4096
  | 0, _, _, _, _, hw => by simp [cutBursts] at hw
  | n + 1, address, cells, h8, w, hw => by
    cases cells with
    | nil => simp [cutBursts] at hw
    | cons c cs =>
      have hp := burstCells_pos (n := (c :: cs).length) h8 (by simp)
      have hle := burstCells_le address (c :: cs).length
      have h1 : address % 4096 < 4096 := Nat.mod_lt _ (by decide)
      unfold cutBursts at hw
      simp only [List.isEmpty_cons, Bool.false_eq_true, if_false, List.mem_cons] at hw
      rcases hw with rfl | hw
      · have hl : ((c :: cs).take (burstCells address (c :: cs).length)).length =
            burstCells address (c :: cs).length := by rw [List.length_take]; omega
        refine ⟨by simpa only [hl] using hp, by simpa only [hl] using hle.2, ?_⟩
        simp only [hl]
        unfold burstCells at hp ⊢
        omega
      · exact cutBursts_inPage n _ _ (by omega) w hw

end Sys2Proof.Machine
end

