-- ==== Sys2Proof/Laws/Transit.lean ====
section
/-! SUPPORT. The transit table's operations and the abandoned counts: what a release does to a key with no entry, what a
change of one entry does, and that the list of abandoned counts keeps its one form and reads back what was set. -/

namespace Sys2Proof.Machine

/-! ## Releases -/

/-- A key without an entry has nothing to send. -/
theorem releaseKey_absent (k : Key) : ∀ t : List Entry, (∀ e ∈ t, e.key ≠ k) → releaseKey k t = (t, [])
  | [], _ => rfl
  | e :: es, h => by
    have he : e.key ≠ k := h e (by simp)
    simp [releaseKey, he, releaseKey_absent k es fun x hx => h x (by simp [hx])]

/-- Entries of other keys in front are passed over. -/
theorem releaseKey_append (k : Key) : ∀ pre t : List Entry, (∀ e ∈ pre, e.key ≠ k) →
    releaseKey k (pre ++ t) = (pre ++ (releaseKey k t).1, (releaseKey k t).2)
  | [], _, _ => rfl
  | e :: es, t, h => by
    have he : e.key ≠ k := h e (by simp)
    simp [releaseKey, he, releaseKey_append k es t fun x hx => h x (by simp [hx])]

/-- A release never adds an entry. -/
theorem releaseKey_length_le (k : Key) : ∀ t : List Entry, (releaseKey k t).1.length ≤ t.length
  | [] => by simp [releaseKey]
  | e :: es => by
    have ih := releaseKey_length_le k es
    have hk : ∀ (x : Entry) (l : List Entry), (keepUnfreed x l).length ≤ l.length + 1 := by
      intro x l; unfold keepUnfreed; split <;> simp
    simp only [releaseKey]
    split
    · split
      · simp
      · exact (hk _ _).trans (by simpa using ih)
      · exact (hk _ _).trans (by simpa using ih)
    · simpa using ih

/-- The one entry of its key, READY and with no path left, is answered and freed. -/
theorem releaseKey_ready {e : Entry} {c : Content} {pre post : List Entry} (h : ∀ x ∈ pre ++ post, x.key ≠ e.key)
    (hp : e.path = .none) (ha : e.answer = .ready c) :
    releaseKey e.key (pre ++ e :: post) = (pre ++ post, [e.response c]) := by
  rw [releaseKey_append _ _ _ fun x hx => h x (by simp [hx])]
  have : releaseKey e.key (e :: post) = (post, [e.response c]) := by
    unfold releaseKey
    rw [if_pos rfl, ha, releaseKey_absent _ _ fun x hx => h x (by simp [hx])]
    simp [keepUnfreed, hp]
  rw [this]

/-- The one entry of its key, READY while its memory response is still due, is answered and stays. -/
theorem releaseKey_cut {e : Entry} {c : Content} {pre post : List Entry} (h : ∀ x ∈ pre ++ post, x.key ≠ e.key)
    (hp : e.path ≠ .none) (ha : e.answer = .ready c) :
    releaseKey e.key (pre ++ e :: post) = (pre ++ { e with answer := .sent c } :: post, [e.response c]) := by
  rw [releaseKey_append _ _ _ fun x hx => h x (by simp [hx])]
  have : releaseKey e.key (e :: post) = ({ e with answer := .sent c } :: post, [e.response c]) := by
    unfold releaseKey
    rw [if_pos rfl, ha, releaseKey_absent _ _ fun x hx => h x (by simp [hx])]
    simp only [keepUnfreed]
    cases hh : e.path <;> simp_all
  rw [this]

/-- The one entry of its key, answered before and with no path left, is freed. -/
theorem releaseKey_sent {e : Entry} {c : Content} {pre post : List Entry} (h : ∀ x ∈ pre ++ post, x.key ≠ e.key)
    (hp : e.path = .none) (ha : e.answer = .sent c) : releaseKey e.key (pre ++ e :: post) = (pre ++ post, []) := by
  rw [releaseKey_append _ _ _ fun x hx => h x (by simp [hx])]
  have : releaseKey e.key (e :: post) = (post, []) := by
    unfold releaseKey
    rw [if_pos rfl, ha, releaseKey_absent _ _ fun x hx => h x (by simp [hx])]
    simp [keepUnfreed, hp, ha]
  rw [this]

/-- A response matches the oldest entry of its key that awaits one (R14). -/
theorem find_awaits_middle {e : Entry} {k : Key} {pre post : List Entry}
    (h : ∀ x ∈ pre, x.key = k → x.downstream = .taken → x.path ≠ .issued ∧ x.path ≠ .cut) (he : e.awaits k = true) :
    (pre ++ e :: post).find? (·.awaits k) = some e := by
  have : pre.find? (·.awaits k) = none := by
    rw [List.find?_eq_none]
    intro x hx hw
    simp only [Entry.awaits, Bool.and_eq_true, Bool.or_eq_true, beq_iff_eq] at hw
    have := h x hx hw.1.1 hw.1.2
    rcases hw.2 with hp | hp
    · exact this.1 hp
    · exact this.2 hp
  rw [List.find?_append, this]
  simp [he]

/-- A change of the one entry of its number. -/
theorem map_update_middle (f : Entry → Entry) (e : Entry) (pre post : List Entry)
    (h : ∀ x ∈ pre ++ post, x.id ≠ e.id) :
    ((pre ++ e :: post).map fun x => if x.id = e.id then f x else x) = pre ++ f e :: post := by
  have hl : ∀ l : List Entry, (∀ x ∈ l, x.id ≠ e.id) → (l.map fun x => if x.id = e.id then f x else x) = l := by
    intro l hl
    induction l with
    | nil => rfl
    | cons y ys ih =>
      have hy : y.id ≠ e.id := hl y (by simp)
      simp [hy, ih fun x hx => hl x (by simp [hx])]
  simp [hl pre fun x hx => h x (by simp [hx]), hl post fun x hx => h x (by simp [hx])]

/-! ## Abandoned counts -/

theorem Key.number_inj {a b : Key} (h : a.number = b.number) : a = b := by
  obtain ⟨ai, at'⟩ := a
  obtain ⟨bi, bt⟩ := b
  have h1 := at'.isLt
  have h2 := bt.isLt
  simp only [Key.number] at h
  have hi : ai.toNat = bi.toNat := by omega
  have ht : at'.toNat = bt.toNat := by omega
  simp [BitVec.eq_of_toNat_eq hi, BitVec.eq_of_toNat_eq ht]

/-- The one form of the list: keys strictly rising, no count of 0. -/
abbrev abandonedSorted (l : List AbandonedCount) : Prop :=
  l.Pairwise (fun a b => a.key.number < b.key.number) ∧ ∀ a ∈ l, a.count ≠ 0

theorem mem_insertAbandoned (a x : AbandonedCount) : ∀ l, x ∈ insertAbandoned a l ↔ x = a ∨ x ∈ l
  | [] => by simp [insertAbandoned]
  | b :: l => by
    simp only [insertAbandoned]
    split
    · simp
    · simp only [List.mem_cons, mem_insertAbandoned a x l]
      exact ⟨fun h => h.elim (.inr ∘ .inl) (fun h => h.elim .inl (.inr ∘ .inr)),
        fun h => h.elim (.inr ∘ .inl) (fun h => h.elim .inl (.inr ∘ .inr))⟩

theorem pairwise_insertAbandoned (a : AbandonedCount) : ∀ l : List AbandonedCount, (∀ b ∈ l, b.key ≠ a.key) →
    l.Pairwise (fun a b => a.key.number < b.key.number) →
    (insertAbandoned a l).Pairwise (fun a b => a.key.number < b.key.number)
  | [], _, _ => by simp [insertAbandoned]
  | b :: l, hne, hp => by
    obtain ⟨hb, hl⟩ := List.pairwise_cons.1 hp
    simp only [insertAbandoned]
    split
    · rename_i hlt
      refine List.pairwise_cons.2 ⟨?_, hp⟩
      intro x hx
      rcases List.mem_cons.1 hx with rfl | hx
      · exact hlt
      · exact hlt.trans (hb x hx)
    · rename_i hge
      refine List.pairwise_cons.2 ⟨?_, pairwise_insertAbandoned a l (fun x hx => hne x (by simp [hx])) hl⟩
      intro x hx
      rcases (mem_insertAbandoned a x l).1 hx with rfl | hx
      · have hk : b.key.number ≠ x.key.number := fun h => hne b (by simp) (Key.number_inj h)
        omega
      · exact hb x hx

/-- Setting a count keeps the list's one form. -/
theorem setAbandoned_sorted {l : List AbandonedCount} (h : abandonedSorted l) (k : Key) (n : Nat) :
    abandonedSorted (setAbandoned l k n) := by
  have hd : abandonedSorted (dropAbandoned l k) :=
    ⟨h.1.filter _, fun a ha => h.2 a (List.mem_filter.1 ha).1⟩
  unfold setAbandoned
  split
  · exact hd
  · rename_i hn
    refine ⟨pairwise_insertAbandoned _ _ ?_ hd.1, ?_⟩
    · intro b hb
      simpa [dropAbandoned] using (List.mem_filter.1 hb).2
    · intro a ha
      rcases (mem_insertAbandoned _ a _).1 ha with rfl | ha
      · exact hn
      · exact hd.2 a ha

theorem addAbandoned_sorted {l : List AbandonedCount} (h : abandonedSorted l) (k : Key) :
    abandonedSorted (addAbandoned l k) := setAbandoned_sorted h k _

theorem reset_abandoned_sorted : abandonedSorted State.reset.transit.abandoned := by decide

theorem abandonedOf_insert_other {a : AbandonedCount} {k : Key} (h : a.key ≠ k) :
    ∀ l, abandonedOf (insertAbandoned a l) k = abandonedOf l k
  | [] => by simp [insertAbandoned, abandonedOf, h]
  | b :: l => by
    have ih := abandonedOf_insert_other h l
    simp only [insertAbandoned]
    split
    · simp [abandonedOf, h]
    · by_cases hb : b.key = k
      · simp [abandonedOf, hb]
      · simpa [abandonedOf, hb] using ih

theorem abandonedOf_insert_same (a : AbandonedCount) :
    ∀ l : List AbandonedCount, (∀ b ∈ l, b.key ≠ a.key) → abandonedOf (insertAbandoned a l) a.key = a.count
  | [], _ => by simp [insertAbandoned, abandonedOf]
  | b :: l, h => by
    have ih := abandonedOf_insert_same a l fun x hx => h x (by simp [hx])
    have hb : b.key ≠ a.key := h b (by simp)
    simp only [insertAbandoned]
    split
    · simp [abandonedOf]
    · simpa [abandonedOf, hb] using ih

/-- A count that was set reads back. -/
theorem abandonedOf_setAbandoned_same (l : List AbandonedCount) (k : Key) (n : Nat) :
    abandonedOf (setAbandoned l k n) k = n := by
  have hne : ∀ b ∈ dropAbandoned l k, b.key ≠ k := fun b hb => by
    simpa [dropAbandoned] using (List.mem_filter.1 hb).2
  unfold setAbandoned
  split
  · rename_i hn
    have : (dropAbandoned l k).find? (fun a => a.key == k) = none := by
      simpa using fun b hb => hne b hb
    simp [abandonedOf, this, hn]
  · exact abandonedOf_insert_same ⟨k, n⟩ _ hne

/-- Every other key's count stays. -/
theorem abandonedOf_setAbandoned_other {k j : Key} (h : j ≠ k) (l : List AbandonedCount) (n : Nat) :
    abandonedOf (setAbandoned l k n) j = abandonedOf l j := by
  have hd : abandonedOf (dropAbandoned l k) j = abandonedOf l j := by
    have : (l.filter fun a => a.key != k).find? (fun a => a.key == j) = l.find? (fun a => a.key == j) := by
      induction l with
      | nil => rfl
      | cons b l ih =>
        by_cases hb : b.key = k
        · simp [hb, ih, Ne.symm h]
        · by_cases hj : b.key = j
          · simp [hj, h]
          · simp [hb, hj, ih]
    simp [abandonedOf, dropAbandoned, this]
  unfold setAbandoned
  split
  · exact hd
  · rw [abandonedOf_insert_other (Ne.symm h), hd]

end Sys2Proof.Machine
end

