-- ==== Sys2Proof/Laws/PerInstr.lean ====
section
/-! SUPPORT. One law for every command, as syntax: the bytes of a management frame. -/

namespace Sys2Proof.Laws.FramedCommand

/-- A command is a management frame exactly when its frame has a least number of bytes (R158). Such a frame uses 1 to 7
bytes, for command, word index and data (R157), and is as long as its whole bytes say. -/
def Statement (i : Instr) : Prop :=
  (i.frameParts.isSome = true ↔ 1 ≤ Sys2Proof.Machine.leastFrameBytes i) ∧
    ∀ p, i.frameParts = some p → 1 ≤ p.2.length ∧ p.2.length ≤ 7 ∧
      ∃ bs, i.frameBytes = some bs ∧ bs.length = p.1.bytes

theorem fit_length (n : Nat) (bs : List Byte) : (fitBytes n bs).length = n := by
  simp [fitBytes]

/-- An event that is no frame. -/
theorem unframed {i : Instr} (h : i.frameParts = none) (hl : Sys2Proof.Machine.leastFrameBytes i = 0) : Statement i :=
  ⟨by simp [h, hl], by simp [h]⟩

/-- A frame, with the bytes it uses. -/
theorem framed {i : Instr} {f : Frame} {bs : List Byte} (h : i.frameParts = some (f, bs))
    (hl : 1 ≤ Sys2Proof.Machine.leastFrameBytes i) (h1 : 1 ≤ bs.length) (h7 : bs.length ≤ 7) : Statement i := by
  refine ⟨by simp [h, hl], fun p hp => ?_⟩
  obtain rfl : (f, bs) = p := Option.some.inj (h.symm.trans hp)
  exact ⟨h1, h7, fitBytes f.bytes bs, by simp [Instr.frameBytes, h], fit_length _ _⟩

theorem requestPresented (r : Request) : Statement (.requestPresented r) :=
  unframed rfl rfl
theorem take : Statement .take :=
  unframed rfl rfl
theorem holdExpiry : Statement .holdExpiry :=
  unframed rfl rfl
theorem grant : Statement .grant :=
  unframed rfl rfl
theorem dPortTake : Statement .dPortTake :=
  unframed rfl rfl
theorem dPortResponse (r : Response) : Statement (.dPortResponse r) :=
  unframed rfl rfl
theorem overdueExpiry (initiator : Initiator) (tag : Tag) (age : Nat) : Statement (.overdueExpiry initiator tag age) :=
  unframed rfl rfl
theorem fullReset (f : Frame) : Statement (.fullReset f) :=
  framed rfl (Nat.le_of_ble_eq_true rfl) (Nat.le_of_ble_eq_true rfl) (Nat.le_of_ble_eq_true rfl)
theorem quiesceComplete : Statement .quiesceComplete :=
  unframed rfl rfl
theorem quiesceAbandon : Statement .quiesceAbandon :=
  unframed rfl rfl
theorem porRstn : Statement .porRstn :=
  unframed rfl rfl
theorem stageTimeout : Statement .stageTimeout :=
  unframed rfl rfl
theorem triginEdge (l : LineRise) : Statement (.triginEdge l) :=
  unframed rfl rfl
theorem trigoutPulseEnd : Statement .trigoutPulseEnd :=
  unframed rfl rfl
theorem readActive (f : Frame) (index : BitVec 16) : Statement (.readActive f index) :=
  framed rfl (Nat.le_of_ble_eq_true rfl) (Nat.le_of_ble_eq_true rfl) (Nat.le_of_ble_eq_true rfl)
theorem readStaged (f : Frame) (index : BitVec 16) : Statement (.readStaged f index) :=
  framed rfl (Nat.le_of_ble_eq_true rfl) (Nat.le_of_ble_eq_true rfl) (Nat.le_of_ble_eq_true rfl)
theorem writeStaged (f : Frame) (index : BitVec 16) (data : Word) : Statement (.writeStaged f index data) :=
  framed rfl (Nat.le_of_ble_eq_true rfl) (Nat.le_of_ble_eq_true rfl) (Nat.le_of_ble_eq_true rfl)
theorem readStatus (f : Frame) (index : BitVec 16) : Statement (.readStatus f index) :=
  framed rfl (Nat.le_of_ble_eq_true rfl) (Nat.le_of_ble_eq_true rfl) (Nat.le_of_ble_eq_true rfl)
theorem rawTimeSnapshot (f : Frame) : Statement (.rawTimeSnapshot f) :=
  framed rfl (Nat.le_of_ble_eq_true rfl) (Nat.le_of_ble_eq_true rfl) (Nat.le_of_ble_eq_true rfl)
theorem apply (f : Frame) : Statement (.apply f) :=
  framed rfl (Nat.le_of_ble_eq_true rfl) (Nat.le_of_ble_eq_true rfl) (Nat.le_of_ble_eq_true rfl)
theorem applyTakesEffect : Statement .applyTakesEffect :=
  unframed rfl rfl
theorem arm (f : Frame) : Statement (.arm f) :=
  framed rfl (Nat.le_of_ble_eq_true rfl) (Nat.le_of_ble_eq_true rfl) (Nat.le_of_ble_eq_true rfl)
theorem disarm (f : Frame) : Statement (.disarm f) :=
  framed rfl (Nat.le_of_ble_eq_true rfl) (Nat.le_of_ble_eq_true rfl) (Nat.le_of_ble_eq_true rfl)
theorem force (f : Frame) : Statement (.force f) :=
  framed rfl (Nat.le_of_ble_eq_true rfl) (Nat.le_of_ble_eq_true rfl) (Nat.le_of_ble_eq_true rfl)
theorem alignOnce (f : Frame) : Statement (.alignOnce f) :=
  framed rfl (Nat.le_of_ble_eq_true rfl) (Nat.le_of_ble_eq_true rfl) (Nat.le_of_ble_eq_true rfl)
theorem clearCounters (f : Frame) : Statement (.clearCounters f) :=
  framed rfl (Nat.le_of_ble_eq_true rfl) (Nat.le_of_ble_eq_true rfl) (Nat.le_of_ble_eq_true rfl)
theorem ackConditions (f : Frame) (mask : Word) : Statement (.ackConditions f mask) :=
  framed rfl (Nat.le_of_ble_eq_true rfl) (Nat.le_of_ble_eq_true rfl) (Nat.le_of_ble_eq_true rfl)
theorem writeAlertEnable (f : Frame) (mask : Word) : Statement (.writeAlertEnable f mask) :=
  framed rfl (Nat.le_of_ble_eq_true rfl) (Nat.le_of_ble_eq_true rfl) (Nat.le_of_ble_eq_true rfl)
theorem readRecord (f : Frame) (offset : BitVec 16) (leftAfter : Option Nat) : Statement (.readRecord f offset leftAfter) :=
  framed rfl (Nat.le_of_ble_eq_true rfl) (Nat.le_of_ble_eq_true rfl) (Nat.le_of_ble_eq_true rfl)
theorem discardHead (f : Frame) : Statement (.discardHead f) :=
  framed rfl (Nat.le_of_ble_eq_true rfl) (Nat.le_of_ble_eq_true rfl) (Nat.le_of_ble_eq_true rfl)
theorem spillResume (f : Frame) : Statement (.spillResume f) :=
  framed rfl (Nat.le_of_ble_eq_true rfl) (Nat.le_of_ble_eq_true rfl) (Nat.le_of_ble_eq_true rfl)
theorem spillSkip (f : Frame) : Statement (.spillSkip f) :=
  framed rfl (Nat.le_of_ble_eq_true rfl) (Nat.le_of_ble_eq_true rfl) (Nat.le_of_ble_eq_true rfl)
theorem captureReset (f : Frame) : Statement (.captureReset f) :=
  framed rfl (Nat.le_of_ble_eq_true rfl) (Nat.le_of_ble_eq_true rfl) (Nat.le_of_ble_eq_true rfl)
theorem syncPulse (l : LineRise) : Statement (.syncPulse l) :=
  unframed rfl rfl
theorem lossWatchExpiry : Statement .lossWatchExpiry :=
  unframed rfl rfl
theorem unknownCommandByte (f : Frame) (byte : Byte) : Statement (.unknownCommandByte f byte) :=
  framed rfl (Nat.le_of_ble_eq_true rfl) (Nat.le_of_ble_eq_true rfl) (Nat.le_of_ble_eq_true rfl)
theorem resetEnd : Statement .resetEnd :=
  unframed rfl rfl

end Sys2Proof.Laws.FramedCommand
end

