-- ==== Sys2Proof/Laws/Status.lean ====
section
/-! SUPPORT. The status words of 11.5: the bits of a field, of several fields joined, and that a word joined from fields that
do not overlap has exactly those fields. -/

namespace Sys2Proof.Machine

/-- A field given by its place, width and value. -/
def fieldOf (f : Nat × Nat × Nat) : StatusWord := statusField f.1 f.2.1 f.2.2

/-- The bits a field gives are those of its place and width. -/
theorem statusField_known (lo width value n : Nat) :
    (statusField lo width value).known.getLsbD n = decide (n < 32 ∧ lo ≤ n ∧ n < lo + width) := by
  unfold statusField
  rw [BitVec.getLsbD_shiftLeft, BitVec.getLsbD_ofNat, Nat.testBit_two_pow_sub_one, Bool.eq_iff_iff]
  simp only [Bool.and_eq_true, decide_eq_true_eq, Bool.not_eq_true', decide_eq_false_iff_not]
  omega

/-- A field's bits are those of its value, modulo two to its width. -/
theorem statusField_value (lo width value n : Nat) :
    (statusField lo width value).value.getLsbD n =
      (decide (n < 32 ∧ lo ≤ n ∧ n < lo + width) && value.testBit (n - lo)) := by
  unfold statusField
  rw [BitVec.getLsbD_shiftLeft, BitVec.getLsbD_ofNat, Nat.testBit_mod_two_pow, Bool.eq_iff_iff]
  simp only [Bool.and_eq_true, decide_eq_true_eq, Bool.not_eq_true', decide_eq_false_iff_not]
  constructor
  · rintro ⟨⟨h1, h2⟩, h3, h4, h5⟩
    exact ⟨by omega, h5⟩
  · rintro ⟨h1, h2⟩
    exact ⟨by omega, by omega, by omega, h2⟩

/-- Joined fields give a bit where one of them does, and set a bit where one of them does. -/
theorem joinFields_getLsbD (fs : List StatusWord) (n : Nat) :
    (joinFields fs).known.getLsbD n = fs.any (·.known.getLsbD n) ∧
      (joinFields fs).value.getLsbD n = fs.any (·.value.getLsbD n) := by
  have h : ∀ a : StatusWord,
      (fs.foldl (fun a b => ⟨a.value ||| b.value, a.known ||| b.known⟩) a).known.getLsbD n =
          (a.known.getLsbD n || fs.any (·.known.getLsbD n)) ∧
        (fs.foldl (fun a b => ⟨a.value ||| b.value, a.known ||| b.known⟩) a).value.getLsbD n =
          (a.value.getLsbD n || fs.any (·.value.getLsbD n)) := by
    induction fs with
    | nil => intro a; simp
    | cons b bs ih => intro a; simp [ih, Bool.or_assoc]
  unfold joinFields
  simpa using h ⟨0, 0⟩

/-- A word joined from fields inside 32 bits that do not overlap has exactly those fields. -/
theorem State.statusHas_of_join {s : State} {i : Nat} {fs : List (Nat × Nat × Nat)}
    (h : s.statusWord i = some (joinFields (fs.map fieldOf))) (hin : ∀ f ∈ fs, f.1 + f.2.1 ≤ 32)
    (hd : fs.Pairwise fun f g => f.1 + f.2.1 ≤ g.1 ∨ g.1 + g.2.1 ≤ f.1) : s.statusHas i fs := by
  have hx : ∀ f ∈ fs, ∀ g ∈ fs, ∀ n, f.1 ≤ n → n < f.1 + f.2.1 → g.1 ≤ n → n < g.1 + g.2.1 → f = g := by
    intro f hf g hg n h1 h2 h3 h4
    by_contra hne
    have : Std.Symm fun f g : Nat × Nat × Nat => f.1 + f.2.1 ≤ g.1 ∨ g.1 + g.2.1 ≤ f.1 := ⟨fun _ _ h => h.symm⟩
    have := hd.forall hf hg hne
    omega
  refine ⟨_, h, ?_, ?_⟩
  · intro f hf k hk
    have hf32 := hin f hf
    rw [(joinFields_getLsbD _ _).1, (joinFields_getLsbD _ _).2]
    refine ⟨?_, ?_⟩
    · rw [List.any_eq_true]
      refine ⟨fieldOf f, List.mem_map_of_mem hf, ?_⟩
      unfold fieldOf
      rw [statusField_known, decide_eq_true_eq]
      omega
    · rw [Bool.eq_iff_iff, List.any_eq_true]
      constructor
      · rintro ⟨w, hw, hv⟩
        obtain ⟨g, hg, rfl⟩ := List.mem_map.1 hw
        unfold fieldOf at hv
        rw [statusField_value, Bool.and_eq_true, decide_eq_true_eq] at hv
        have := hx f hf g hg (f.1 + k) (by omega) (by omega) hv.1.2.1 hv.1.2.2
        subst this
        simpa using hv.2
      · intro ht
        refine ⟨fieldOf f, List.mem_map_of_mem hf, ?_⟩
        unfold fieldOf
        rw [statusField_value, Bool.and_eq_true, decide_eq_true_eq]
        exact ⟨by omega, by simpa using ht⟩
  · intro n hn
    rw [(joinFields_getLsbD _ _).1, List.any_eq_true] at hn
    obtain ⟨w, hw, hv⟩ := hn
    obtain ⟨g, hg, rfl⟩ := List.mem_map.1 hw
    unfold fieldOf at hv
    rw [statusField_known, decide_eq_true_eq] at hv
    exact ⟨g, hg, hv.2⟩

end Sys2Proof.Machine
end

