-- ==== Sys2Proof/Tests/Slice0.lean ====
section
/-! SUPPORT. Tests: ill-formed commands that WellFormed refuses, frames and worked examples of the manual, one step of each
command, and for every statement with hypotheses a state and operands that meet them. Each expected value is the manual's
(its rule or worked example is named) unless the comment says otherwise. -/

namespace Sys2Proof.Tests

-- One theorem at a time: each kernel evaluation would otherwise hold a thread of its own.
set_option Elab.async false

open Sys2Proof Sys2Proof.Machine

/-! ## Small states -/

/-- The state a step leaves; where it stops, the state before. -/
def after (s : State) (o : Host.Outcome State Fault Refusal) : State :=
  match o with
  | .next t => t
  | .fault _ => s
  | .refused _ => s

/-- The state after one command. -/
def run (s : State) (i : Instr) : State := after s (exec i s)

/-- A state with its ACTIVE set changed. -/
def withSet (s : State) (g : ParamSet → ParamSet) : State :=
  { s with config := { s.config with active := g s.config.active } }

abbrev pass : State := State.reset
def observing : State := withSet pass fun p => { p with mode := 1 }
def f1 : Frame := ⟨1, false⟩
def f7 : Frame := ⟨7, false⟩
def key : Key := ⟨3, 7⟩
def readA : Request := ⟨.read, 3, 7, 0x20000100, 4, []⟩
def read15 : Request := ⟨.read, 15, 0, 0x20000100, 4, []⟩
def okay : Response := ⟨.write, 3, 7, .okay, []⟩

/-- An entry of key (3, 7), taken at raw time 1500 with deadline 3500 (the times of 1.8's worked example). -/
def entry : Entry :=
  { id := 0, key := key, kind := .write, address := 0x20000100, beats := 1, firstBeat := some ⟨0xA5, 0xFF⟩, snoop := none,
    takeTime := 1500, deadline := some 3500, origin := .forwarded, path := .issued, downstream := .taken,
    answer := .pending, overdueSeen := false }

/-- An entry of another key, older. -/
def other : Entry := { entry with id := 7, key := ⟨5, 12⟩, kind := .read, deadline := none }

/-- A state with a table, at raw time 3500. -/
def holding (s : State) (es : List Entry) : State :=
  { s with transit := { s.transit with table := es, takes := 8 }, clock := { s.clock with raw := 3500 } }

/-- An ARMED state of a set at a stage, with a timer. -/
def armed (s : State) (n : Nat) (timer : Option Nat) : State :=
  s.setTrigger (.armed { stage := n, outcomes := [], cumulative := 0, timer := timer })

/-- An observation of sequence number `n` from an initiator, with no hit. -/
def seen (n : Nat) (i : Option Initiator) : Observation :=
  { sequence := BitVec.ofNat 32 n, timestamp := 0, body := { kind := if i.isSome then .read else .mark, initiator := i },
    hits := 0, dataBeat := none }

/-- An open record with nothing kept. -/
def blank : OpenRecord :=
  { number := 31, generation := 12, cause := .stage, triggerTime := 7340215, epoch := 3, observations := [], preCount := 0,
    triggerIndex := none, postRemaining := 2, suppressed := 0, nested := 254, truncated := false, aborted := false,
    extended := false, epochChanged := false }

/-- CAPTURING with that record open. -/
def capturing (s : State) : State :=
  { s with trigger := { s.trigger with state := .capturing }, store := { s.store with openRecord := some blank } }

/-- A record of `n` cells in the directory. -/
def filed (n : Nat) : DirectoryEntry := ⟨212, List.replicate n 0x52, .ready⟩

/-- A state whose directory holds records. -/
def storing (s : State) (d : List DirectoryEntry) : State := { s with store := { s.store with directory := d } }

/-- The set of 6's worked example: route SPILL, a 16 KiB ring at 0x00_9000_0000, protection on. -/
def ringSet (p : ParamSet) : ParamSet :=
  { p with drainRoute := 1, spillSize := 0x4000, spillBase := 0x90000000, protection := true }

/-- A state of that set with its engine in a state. -/
def spilling (e : EngineState) (d : List DirectoryEntry) : State :=
  let s := storing (withSet pass ringSet) d
  { s with spill := { s.spill with engine := e, producer := 15680, wrapCount := 7, consumer := 3200 } }

/-- The store has no room for a fire: STORE_LOW. -/
def low (s : State) : State := { s with store := { s.store with reservation := 16384 } }

/-- Policy HOLD in OBSERVE mode with STORE_LOW: HOLD is in force. -/
def heldBack : State := low (withSet observing fun p => { p with capturePolicy := 1 })

/-- A full-reset quiesce in progress, its timer at `n`. -/
def quiet (s : State) (n : Nat) : State := { s with transit := { s.transit with quiesceTimer := some n } }

/-! ## WellFormed: one ill-formed command for each check -/

theorem test_wf_address : (Instr.requestPresented { readA with address := 0x20000104 }).wellFormed = false := by decide
theorem test_wf_no_beats : (Instr.requestPresented { readA with beats := 0 }).wellFormed = false := by decide
theorem test_wf_beats : (Instr.requestPresented { readA with beats := 17 }).wellFormed = false := by decide
theorem test_wf_write_data : (Instr.requestPresented { readA with kind := .write }).wellFormed = false := by decide
theorem test_wf_read_data : (Instr.requestPresented { readA with data := [⟨0, 0⟩] }).wellFormed = false := by decide
theorem test_wf_write_answer : (Instr.dPortResponse { okay with data := [0] }).wellFormed = false := by decide
theorem test_wf_long_answer :
    (Instr.dPortResponse { okay with kind := .read, data := List.replicate 17 0 }).wellFormed = false := by decide
theorem test_wf_fault_data :
    (Instr.dPortResponse { okay with kind := .read, status := .fault, data := [1] }).wellFormed = false := by decide
theorem test_wf_snapshot_index : (Instr.readStatus f7 0x470).wellFormed = false := by decide
theorem test_wf_known_byte : (Instr.unknownCommandByte f1 0x20).wellFormed = false := by decide
theorem test_wf_good : (Instr.requestPresented readA).wellFormed = true ∧ (Instr.dPortResponse okay).wellFormed = true := by
  decide

/-! ## Frames, byte by byte from R157 and 11.3 -/

theorem test_frame_word_commands :
    decodeFrame [0x01, 0x00, 0x41, 0, 0, 0, 0] false none = some (.readActive f7 0x041) ∧
    decodeFrame [0x02, 0x02, 0x18, 0, 0, 0, 0] false none = some (.readStaged f7 0x218) ∧
    decodeFrame [0x03, 0x01, 0x23, 0x11, 0x22, 0x33, 0x44] false none = some (.writeStaged f7 0x123 0x11223344) ∧
    decodeFrame [0x04, 0x04, 0x10, 0, 0, 0, 0] true none = some (.readStatus ⟨7, true⟩ 0x410) ∧
    decodeFrame [0x04, 0x04, 0x70, 0, 0, 0, 0] false none = some (.rawTimeSnapshot f7) := by decide

theorem test_frame_commands :
    decodeFrame [0x10] false none = some (.apply f1) ∧ decodeFrame [0x20] false none = some (.arm f1) ∧
    decodeFrame [0x21] false none = some (.disarm f1) ∧ decodeFrame [0x22] false none = some (.force f1) ∧
    decodeFrame [0x30] false none = some (.alignOnce f1) ∧ decodeFrame [0x40] false none = some (.clearCounters f1) ∧
    decodeFrame [0x51] false none = some (.discardHead f1) ∧ decodeFrame [0x60] false none = some (.spillResume f1) ∧
    decodeFrame [0x61] false none = some (.spillSkip f1) ∧ decodeFrame [0x70] false none = some (.captureReset f1) ∧
    decodeFrame [0x7F] false none = some (.fullReset f1) ∧
    decodeFrame [0x11] false none = some (.unknownCommandByte f1 0x11) ∧ decodeFrame [] false none = none := by decide

theorem test_frame_masks_and_record :
    decodeFrame [0x41, 9, 9, 0x00, 0x10, 0x00, 0x00] false none = some (.ackConditions f7 0x00100000) ∧
    decodeFrame [0x42, 0, 0, 0x00, 0x10, 0x00, 0x01] false none = some (.writeAlertEnable f7 0x00100001) ∧
    decodeFrame [0x50, 0x01, 0x02] false (some 4) = some (.readRecord ⟨3, false⟩ 0x102 (some 4)) := by decide

/-! ## Worked examples of the manual -/

/-- The check value of the CRC-32 that R182 describes, over the nine digits. -/
theorem test_crc_check_value :
    crc32 [0x31, 0x32, 0x33, 0x34, 0x35, 0x36, 0x37, 0x38, 0x39] = 0xCBF43926 ∧
    crcByGenerator [0x31, 0x32, 0x33, 0x34, 0x35, 0x36, 0x37, 0x38, 0x39] = 0xCBF43926 := by decide +kernel

/-- 11.1, by hand: header cell 0 of record 31 with one observation, 8 cells; cell 0 of that MARK, number 5; the wrap marker. -/
theorem test_record_cells :
    ({ blank with number := 31, observations := [seen 5 none] } : OpenRecord).headerCells.head? = some 0x1F00080152 ∧
    (seen 5 none).cell0 = 0x0006000000000005 ∧ wrapMarker = 0x0157 := by decide +kernel

/-- R152: the first failed check of a set that fails checks 8 and 10, and of one that fails check 10 alone. -/
theorem test_first_failed :
    { ParamSet.defaults with share := 0, mode := 2 }.firstFailed = some 8 ∧
    { ParamSet.defaults with mode := 2 }.firstFailed = some 10 ∧ ParamSet.defaults.firstFailed = none := by decide +kernel

/-- 6, "a record that wraps": 632 free bytes give no room, 3832 give a wrap to offset 0. -/
theorem test_placement_example :
    ringFree 16320 15680 0 = 632 ∧ placement 16320 15680 632 100 7 = .noRoom ∧ ringFree 16320 15680 3200 = 3832 ∧
    placement 16320 15680 3832 100 7 = .record (some 15680) 0 800 8 := by decide

/-- The same example: six bursts of 16 cells and one of 4. -/
theorem test_bursts_example :
    (cutBursts 100 0x90000040 (List.replicate 100 0)).map (·.cells.length) = [16, 16, 16, 16, 16, 16, 4] := by
  decide +kernel

/-- 7, "a one-shot alignment, a slip and a loss": the phases of pulses 1, 3 and 5. -/
theorem test_phase_example :
    phaseOf 5237416 100000 = 37416 ∧ phaseOf 5400036 100000 = 36 ∧ phaseOf 5975484 100000 = -24516 := by decide +kernel

/-- The reservations of 12.2, 5 and 3's worked examples: 197, 69 and 261 cells. -/
theorem test_reservation_examples :
    ParamSet.defaults.reservation = 197 ∧
    ({ ParamSet.defaults with maxObs := 16, watch := [{ WatchEntry.default with enabled := true, capture := true }]
       } : ParamSet).reservation = 69 ∧
    ({ ParamSet.defaults with watch := [{ WatchEntry.default with enabled := true, capture := true }] } : ParamSet).reservation
      = 261 := by decide

/-- 3, "one table, eight observations", 901 and 904: bytes 4–7, then byte 0, of the beat under test are zero. -/
theorem test_data_test_example :
    let e : WatchEntry := { WatchEntry.default with hasCompare := true, compareValue := 0xA5, compareMask := 0xFF }
    e.dataTest (some ⟨0x11223344556677A5, 0x0F⟩) = true ∧ e.dataTest (some ⟨0xFFFFFFFFFFFFFFA5, 0xFE⟩) = false := by
  decide +kernel

/-- 5, "a capture with suppression and a nested trigger": the walk keeps 1198, 1200, 1202, 1203 and suppresses 2. -/
theorem test_pre_walk_example :
    let ring := [seen 1203 (some 2), seen 1202 none, seen 1201 (some 6), seen 1200 (some 3), seen 1199 (some 6),
      seen 1198 (some 4), seen 1197 (some 0)].map fun o => RingEntry.mk o false
    let w := preWalk { ParamSet.defaults with suppress := 0x40 } 4 ring []
    (w.2.1.map (·.sequence.toNat), w.2.2, w.1.map (·.claimed)) =
      ([1198, 1200, 1202, 1203], 2, [true, true, true, true, true, true, false]) := by decide +kernel

/-- 4, "a two-stage sequence", 43 and 44: the oldest outcome drops, then the third hit in three makes two. -/
theorem test_window_example :
    let d : StageDef := { StageDef.default 0 with count := 2, window := 3, watchSet := 1 }
    let a : ArmedStage := { stage := 0, outcomes := [true, false, false], cumulative := 0, timer := none }
    (a.withOutcome d true).hitCount d = 1 ∧ ((a.withOutcome d true).withOutcome d true).hitCount d = 2 := by decide

/-- 1, "a decline between two forwarded reads": L's write to the record area is declined WINDOW; the consumer word, and a
write just past the ring, are not (R4). -/
theorem test_window_decline_example :
    let p := { ParamSet.defaults with spillSize := 0x10000, spillBase := 0x80000000, protection := true }
    let at' := fun a : Addr => declineReason p ⟨.write, 3, 7, a, 1, [⟨0, 0xFF⟩]⟩
    at' 0x80000040 = some .window ∧ at' 0x80000010 = none ∧ at' 0x8000FFF8 = some .window ∧ at' 0x80010000 = none := by
  decide +kernel

/-- 9, "six writes to one page", W4: two beats at 0x00_7FFF_FFB8 cover the command word with the second beat. -/
theorem test_snoop_example :
    snoopBeat { ParamSet.defaults with pageEnable := true, pageBase := 0x7FFFFFC0 }
      ⟨.write, 1, 0, 0x7FFFFFB8, 2, [⟨1, 0xFF⟩, ⟨0x2A00000004, 0xFF⟩]⟩ = some ⟨.command, ⟨0x2A00000004, 0xFF⟩, 2⟩ ∧
    commandCode 0x2A00000004 = 4 ∧ commandArgument 0x2A00000004 = 0x2A := by decide +kernel

/-- The default words of 11.4 as R150's values give them. -/
theorem test_default_words :
    ParamSet.defaults.readWord 0x000 = some 0x00030000 ∧ ParamSet.defaults.readWord 0x004 = some 0x04001010 ∧
    ParamSet.defaults.readWord 0x002 = some 0x00010000 ∧ ParamSet.defaults.readWord 0x023 = some 0x00000400 ∧
    ParamSet.defaults.readWord 0x218 = some 0x00010110 ∧ ParamSet.defaults.readWord 0x202 = none := by decide +kernel

/-! ## One step of each command -/

/-- R3, R173: a request that finds 48 entries sets TABLE_FULL and waits. -/
theorem test_request_presented :
    let t := run (holding pass (List.replicate 48 entry)) (.requestPresented readA)
    t.transit.upstream = some readA ∧ t.isSet .tableFull = true := by decide +kernel

/-- R4, R6: an accepted request joins the table and the forward queue. -/
theorem test_take :
    let t := run { pass with transit := { pass.transit with upstream := some readA } } .take
    t.transit.table.map (·.path) = [.queued] ∧ t.transit.forwardQueue.map (·.request) = [readA] := by decide +kernel

/-- R4, R5: initiator 15 is declined and answered FAULT with zero data for each beat. -/
theorem test_take_declined :
    let t := run { pass with transit := { pass.transit with upstream := some read15 } } .take
    t.outputs.upstream = [⟨.read, 15, 0, .fault, [0, 0, 0, 0]⟩] ∧ t.counter .declinedInitiator = 1 := by decide +kernel

/-- R27: at the hold limit the episode ends and HOLD_EXPIRED is set. -/
theorem test_hold_expiry :
    let t := run { heldBack with transit := { heldBack.transit with holdTimer := some 65536 } } .holdExpiry
    t.transit.holdExpired = true ∧ t.isSet .holdExpired = true := by decide +kernel

/-- R11, R12: the forward head is presented. -/
theorem test_grant :
    let t := run { pass with transit := { pass.transit with forwardQueue := [⟨0, readA⟩] } } .grant
    t.transit.dPort = some ⟨readA, .forward 0⟩ ∧ t.transit.forwardQueue = [] := by decide +kernel

/-- R12: a taken request is ISSUED and TAKEN. -/
theorem test_d_port_take :
    let s := holding pass [{ entry with path := .queued, downstream := .presented }]
    let t := run { s with transit := { s.transit with dPort := some ⟨readA, .forward 0⟩ } } .dPortTake
    t.transit.table.map (fun e => (e.path, e.downstream)) = [(.issued, .taken)] := by decide +kernel

/-- R14, R15, R18: the answer goes upstream under the entry's kind and the entry is freed. -/
theorem test_d_port_response :
    let t := run (holding pass [entry]) (.dPortResponse okay)
    t.outputs.upstream = [okay] ∧ t.transit.table = [] := by decide +kernel

/-- R17: a response of no entry is an orphan. -/
theorem test_orphan :
    let t := run pass (.dPortResponse okay)
    t.isSet .orphan = true ∧ t.counter .orphan = 1 := by decide +kernel

/-- 1, "a cut answer held behind an older read": at raw time 3500 B is cut, READY with FAULT, and not sent. -/
theorem test_overdue_expiry :
    let s := holding (withSet pass fun p => { p with overdueAction := 1 })
      [{ entry with takeTime := 1000, deadline := none }, { entry with id := 1 }]
    let t := run s (.overdueExpiry 3 7 1)
    t.transit.table.map (·.path) = [.issued, .cut] ∧ t.outputs.upstream = [] := by decide +kernel

/-- R28, R163: with an entry in the table the quiesce starts, at timer 0. -/
theorem test_full_reset : (run (holding pass [entry]) (.fullReset f1)).transit.quiesceTimer = some 0 := by decide +kernel

/-- R28, R163: with the table empty the reset takes effect on the ACTIVE set. -/
theorem test_quiesce_complete :
    let t := run (quiet observing 5) .quiesceComplete
    t.config.active = ParamSet.defaults ∧ t.quiescing = false := by decide +kernel

/-- R29: at the quiesce limit the entry is answered FAULT, and its memory response becomes an abandoned count. -/
theorem test_quiesce_abandon :
    let t := run (quiet (holding pass [entry]) 1048576) .quiesceAbandon
    t.outputs.upstream = [{ okay with status := .fault }] ∧ t.transit.abandoned = [⟨key, 1⟩] := by decide +kernel

/-- R30, R183: the reset empties the table and holds the part. -/
theorem test_por_rstn :
    let t := run (holding observing [entry]) .porRstn
    t.transit.table = [] ∧ t.held = true := by decide +kernel

/-- R67: the stage times out to stage 0 and is counted. -/
theorem test_stage_timeout :
    let t := run (armed observing 1 (some 0)) .stageTimeout
    t.currentStage = some 0 ∧ t.counter .stageTimeouts = 1 := by decide +kernel

/-- R80: in DIRECT mode an edge fires while ARMED. -/
theorem test_trigin_edge :
    let t := run (armed (withSet observing fun p => { p with triginMode := 2 }) 0 none) (.triginEdge ⟨true, true⟩)
    t.capturing = true ∧ t.counter .fires = 1 := by decide +kernel

/-- R81: the pulse ends at its eighth tick. -/
theorem test_trigout_pulse_end :
    (run { pass with trigger := { pass.trigger with trigout := some 8 } } .trigoutPulseEnd).trigoutHigh = false := by
  decide +kernel

/-- R157, R160: the word goes out most significant byte first after the result byte and two zero bytes. -/
theorem test_read_active : (run pass (.readActive f7 0x023)).outputs.mdo = [0, 0, 0, 0x00, 0x00, 0x04, 0x00] := by
  decide +kernel

theorem test_read_staged : (run pass (.readStaged f7 0x218)).outputs.mdo = [0, 0, 0, 0x00, 0x01, 0x01, 0x10] := by
  decide +kernel

/-- R151, R160: the STAGED set takes the word, and an index of no word gives BAD_INDEX. -/
theorem test_write_staged :
    (run pass (.writeStaged f7 0x041 100000)).config.staged.period = 100000 ∧
    (run pass (.writeStaged f7 0x202 1)).config.result = .badIndex := by decide +kernel

/-- R161, 11.5: word 0x444 is the next record number, and 0x4C0 names no word. -/
theorem test_read_status :
    (run pass (.readStatus f7 0x444)).outputs.mdo = [0, 0, 0, 0, 0, 0, 0] ∧
    (run pass (.readStatus f7 0x4C0)).config.result = .badIndex := by decide +kernel

/-- R146: the snapshot holds the raw counter of the read, which is sent. -/
theorem test_raw_time_snapshot :
    let t := run (holding pass []) (.rawTimeSnapshot f7)
    t.clock.snapshot.raw = 3500 ∧ t.outputs.mdo = [0, 0, 0, 0x00, 0x00, 0x0D, 0xAC] := by decide +kernel

/-- R152, R155: a set that passes takes effect at once with nothing against it, as generation 1. -/
theorem test_apply :
    let t := run (run pass (.writeStaged f7 0x000 0x00030001)) (.apply f1)
    t.config.active.mode? = some .observe ∧ t.config.generation = 1 := by decide +kernel

/-- R152: the number of the first failed check is the refusal cause. -/
theorem test_apply_refused :
    (run (run pass (.writeStaged f7 0x023 0)) (.apply f1)).config.refusalCause = some 8 := by decide +kernel

/-- R155: APPLY_DONE is set and every ring entry is claimed. -/
theorem test_apply_takes_effect :
    let s := { pass with config := { pass.config with applyPending := true },
                         observer := { pass.observer with ring := [⟨seen 9 none, false⟩] } }
    let t := run s .applyTakesEffect
    t.isSet .applyDone = true ∧ t.observer.ring.map (·.claimed) = [true] := by decide +kernel

/-- R77: ARM enters stage 0 in OBSERVE mode and is REFUSED in PASS mode. -/
theorem test_arm : (run observing (.arm f1)).currentStage = some 0 ∧ (run pass (.arm f1)).config.result = .refused := by
  decide +kernel

/-- R78, R98: DISARM aborts the open record. -/
theorem test_disarm :
    let t := run (capturing observing) (.disarm f1)
    t.counter .aborted = 1 ∧ t.trigger.state = .disarmed := by decide +kernel

/-- R79, R95: FORCE while CAPTURING is a retrigger; the nested count saturates at 255. -/
theorem test_force :
    (run (run (capturing observing) (.force f1)) (.force f1)).store.openRecord.map (·.nested) = some 255 := by
  decide +kernel

theorem test_align_once : (run pass (.alignOnce f1)).clock.once = true := by decide +kernel

theorem test_clear_counters : (run (pass.count .fires) (.clearCounters f1)).counter .fires = 0 := by decide +kernel

/-- R174: only the condition named is cleared. -/
theorem test_ack_conditions :
    let t := run ((pass.raise .applyDone).raise .late) (.ackConditions f7 0x00100000)
    t.isSet .applyDone = false ∧ t.isSet .late = true := by decide +kernel

/-- R175: enabling a condition that is already set drives ALERT high. -/
theorem test_write_alert_enable : (run (pass.raise .applyDone) (.writeAlertEnable f7 0x00100001)).alert = true := by
  decide +kernel

/-- R105, R181: the head's cells from the offset, byte 0 of each first. -/
theorem test_read_record :
    (run (storing pass [filed 9]) (.readRecord ⟨12, false⟩ 8 none)).outputs.mdo =
      [0, 0, 0, 0x52, 0, 0, 0, 0, 0, 0, 0, 0] := by decide +kernel

theorem test_discard_head :
    let t := run (storing pass [filed 9]) (.discardHead f1)
    t.store.directory = [] ∧ t.counter .discarded = 1 := by decide +kernel

/-- R124, 6's worked example: the head is placed again from 15680, and with consumer offset 3200 it wraps. -/
theorem test_spill_resume :
    let t := run (spilling (.fault .writeFault) [filed 100]) (.spillResume f1)
    t.spill.engine = .writing ∧ t.spill.attempt.map (·.newProducer) = some 800 := by decide +kernel

/-- R125: the head leaves unspilled and is counted skipped. -/
theorem test_spill_skip :
    let t := run (spilling (.fault .writeFault) [filed 100]) (.spillSkip f1)
    t.store.directory = [] ∧ t.counter .skipped = 1 := by decide +kernel

/-- R164, R108: the ring and the directory empty, and the next record number stays. -/
theorem test_capture_reset :
    let s := storing pass [filed 9]
    let t := run { s with store := { s.store with nextNumber := 213 } } (.captureReset f1)
    t.store.directory = [] ∧ t.store.nextNumber = 213 := by decide +kernel

/-- 7's worked example, pulse 1: the offset becomes −37416 modulo 2^48 and the epoch 1. -/
theorem test_sync_pulse :
    let s := withSet pass fun p => { p with period := 100000 }
    let t := run { s with clock := { s.clock with raw := 5237416, once := true } } (.syncPulse ⟨true, true⟩)
    t.clock.offset = 281474976673240 ∧ t.clock.epoch = 1 := by decide +kernel

/-- 7's worked example: 200000 ticks after pulse 4 the watch is LOST. -/
theorem test_loss_watch_expiry :
    let s := withSet pass fun p => { p with period := 100000, syncMode := 1 }
    let t := run { s with clock := { s.clock with raw := 5737421, lastPulse := some 5537421, lossWatch := .watching } }
      .lossWatchExpiry
    t.clock.lossWatch = .lost ∧ t.isSet .syncLost = true := by decide +kernel

theorem test_unknown_command_byte : (run pass (.unknownCommandByte f1 0x11)).config.result = .refused := by
  decide +kernel

/-- R183: after the reset ends the part runs. -/
theorem test_reset_end : (run (run pass .porRstn) .resetEnd).held = false := by decide +kernel

/-- R154, R98, R155: a DISARM word's response with an apply pending over an open record: whichever comes first, the
observation that is its last or the abort, the apply is taken in that response. -/
theorem test_apply_between_observation_and_offer :
    let s := capturing observing
    let s := { s with config := { s.config with applyPending := true,
                                                active := { s.config.active with pageEnable := true, permit := 8 } },
                      store := { s.store with openRecord := some { blank with postRemaining := 1 } } }
    (s.observeAndOffer { kind := .write, initiator := some 3 } none (some ⟨.command, ⟨2, 0xFF⟩, 1⟩) 3).config.generation =
      1 := by
  unfold State.observeAndOffer
  dsimp only
  split <;> decide +kernel

/-- R60, R62, R64, 11.5: word 0x440's window hit count is given while ARMED at a HITS stage, and is an absent item at a LINE
or SLIP stage. -/
theorem test_window_hits_absent :
    let at' := fun c : BitVec 2 =>
      (armed (withSet observing fun p => { p with stages := List.replicate 4 { StageDef.default 1 with condition := c } }) 1
        none).windowHits
    (at' 0).isSome = true ∧ at' 1 = none ∧ at' 2 = none := by decide +kernel

/-! ## A state and operands that meet the hypotheses of each statement, for each of its clauses -/

/-- A state with an apply pending and nothing against it. -/
def due : State := { pass with config := { pass.config with applyPending := true } }

/-- A state with an apply pending that an open record holds back. -/
def waiting : State :=
  let s := capturing observing;
  { s with config := { s.config with applyPending := true } }

/-- A state held in reset. -/
def reset : State := { pass with held := true }

/-- A state with a request presented. -/
def presented (s : State) (r : Request) : State := { s with transit := { s.transit with upstream := some r } }

/-- A state with the engine in WRITING and a write of its attempt ready. -/
def writing : State :=
  let s := spilling .writing [{ filed 100 with state := .spilling }];
  { s with spill := { s.spill with attempt := some (recordAttempt s.config.active (filed 100).cells (some 15680) 0 800 8) } }

/-- A state with one request forwarded behind three grants against a claim. -/
def queued (s : State) : State :=
  { s with transit := { s.transit with forwardQueue := [⟨0, readA⟩], runCount := 3 } }

/-- A state with a tag in use. -/
def tagged (s : State) (u : TagUse) : State := { s with spill := { s.spill with tags := [.inUse u, .free, .free, .free] } }

/-- A request of the engine on the D-port. -/
def spillOut : Request := spillRequest 0 ⟨0x90003D80, [wrapMarker]⟩

/-- An OKAY answer under initiator 15 and tag 0. -/
def answer15 : Response := ⟨.write, 15, 0, .okay, []⟩

/-- The entry of a write of the consumer word or the command word. -/
def snooped (w : SnoopWord) (b : Beat) (n : Nat) : Entry := { entry with snoop := some ⟨w, b, n⟩ }

/-- The control page on, for initiator 3. -/
def paged (s : State) : State := withSet s fun p => { p with pageEnable := true, permit := 8 }

/-- A TRIGIN mode, a stage 0 waiting on the line, and ARMED at it. -/
def lineArmed (mode : BitVec 2) : State :=
  armed (withSet observing fun p =>
    { p with triginMode := mode,
             stages := [{ StageDef.default 0 with condition := 1 }, StageDef.default 0, StageDef.default 0,
                        StageDef.default 1] }) 0 none

theorem witness_FrontCommandRuns :
    ({ pass with pending := [.take] } : State).pending = .take :: [] := by
  decide +kernel

/-- Held in reset; a due apply; a due event; nothing due. -/
theorem witness_EmptyQueueStep :
    (reset.pending = [] ∧ reset.held = true) ∧ (due.pending = [] ∧ due.held = false ∧ due.applyDue = true) ∧
    (let s := presented pass readA; s.pending = [] ∧ s.held = false ∧ s.applyDue = false ∧ s.dueEvents ≠ []) ∧
    (pass.pending = [] ∧ pass.held = false ∧ pass.applyDue = false ∧ pass.dueEvents = []) := by
  decide +kernel

theorem witness_HeldPartIgnoresCommands :
    reset.held = true ∧ Instr.take ≠ .porRstn ∧ Instr.take ≠ .resetEnd := by
  decide +kernel

theorem witness_DueApplyComesFirst : due.held = false ∧ due.applyDue = true ∧ Instr.take ≠ .porRstn ∧
    Instr.take ≠ .resetEnd ∧ exec .applyTakesEffect due = .next (run due .applyTakesEffect) :=
  ⟨rfl, by decide +kernel, by decide, by decide, rfl⟩

/-- Presented: HOLD not in force, with a full table; in force. Followed: not in force; in force with none waiting; in force
with a request waiting. -/
theorem witness_PresentedRequestAndHold :
    (let s := holding pass (List.replicate 48 entry);
      s.running ∧ s.transit.upstream = none ∧ s.holdInForce = false ∧ s.transit.table.length = 48) ∧
    (heldBack.running ∧ heldBack.transit.upstream = none ∧ heldBack.holdInForce = true ∧
      heldBack.transit.holdTimer = none) ∧
    (let force := fun s : State => s.config.active.capturePolicy? == some .hold && s.config.active.mode? == some .observe &&
        s.storeLow && !(s.transit.holdExpired && s.storeLow);
      force pass = false ∧ force heldBack = true ∧ heldBack.transit.upstream = none ∧
        force (presented heldBack readA) = true ∧ (presented heldBack readA).transit.holdTimer = none ∧
        (presented heldBack readA).transit.upstream.isSome = true) := by
  decide +kernel

/-- Accepted with 47 entries in the table; declined beside an entry of another key, and behind an older one of its key; and
each obstacle. -/
theorem witness_TakeActsOnPresentedRequest :
    let long := { readA with address := 0x20000FF8, beats := 2 };
    let free := fun (s : State) (r : Request) => s.running ∧ s.transit.upstream = some r ∧ s.transit.table.length < 48 ∧
      s.holdInForce = false ∧ s.quiescing = false;
    (let s := presented (holding observing (List.replicate 47 entry)) readA;
      free s readA ∧ declineReason s.config.active readA = none) ∧
    (let s := presented (holding observing [entry]) read15;
      free s read15 ∧ declineReason s.config.active read15 = some .initiator ∧
        ∀ x ∈ s.transit.table, x.key ≠ ⟨read15.initiator, read15.tag⟩) ∧
    (let s := presented (holding observing [entry]) long;
      free s long ∧ declineReason s.config.active long = some .boundary ∧
        entry.key = ⟨long.initiator, long.tag⟩ ∧ entry.answer = .pending) ∧
    (pass.running ∧ pass.transit.upstream = none) ∧
    (let s := presented (holding observing (List.replicate 48 entry)) readA; s.running ∧ 48 ≤ s.transit.table.length) ∧
    ((presented heldBack readA).running ∧ (presented heldBack readA).holdInForce = true) ∧
    ((quiet pass 0).running ∧ (quiet pass 0).quiescing = true) := by
  decide +kernel

/-- A READ; a WRITE on the command word with its last beat; one on the consumer word with its first; one that ends just below
both. -/
theorem witness_TakeActsOnPresentedRequest_snoop :
    let p := { ParamSet.defaults with pageEnable := true, pageBase := 0x7FFFFFC0, spillSize := 0x10000, spillBase := 0x80000000 };
    let w := fun a : Addr => (⟨.write, 3, 7, a, 2, [⟨1, 0xFF⟩, ⟨2, 0xFF⟩]⟩ : Request);
    readA.kind = .read ∧ p.ringValid = true ∧
    ((w 0x7FFFFFB8).address.toNat + 8 * 1 = p.pageBase.toNat ∧
      ∀ j < 2, (w 0x7FFFFFB8).address.toNat + 8 * j ≠ p.spillBase.toNat + 16) ∧
    ((w 0x80000010).address.toNat + 8 * 0 = p.spillBase.toNat + 16 ∧
      ∀ j < 2, (w 0x80000010).address.toNat + 8 * j ≠ p.pageBase.toNat) ∧
    (∀ k < 2, (w 0x7FFFFFB0).address.toNat + 8 * k ≠ p.pageBase.toNat ∧
      (w 0x80000000).address.toNat + 8 * k ≠ p.spillBase.toNat + 16) := by
  decide +kernel

/-- No claim; a claim below SHARE; a claim at SHARE; neither claimant. -/
theorem witness_GrantFollowsDecisionTable :
    (let s := queued pass;
      s.running ∧ s.transit.dPort = none ∧ s.transit.forwardQueue = ⟨0, readA⟩ :: [] ∧ s.spillClaim = none) ∧
    (let s := queued writing;
      s.running ∧ s.transit.dPort = none ∧ s.spillClaim.isSome = true ∧ s.storeLow = false ∧
        s.transit.runCount < s.config.active.share.toNat) ∧
    (let s := withSet (queued writing) fun p => { p with share := 3 };
      s.running ∧ s.transit.dPort = none ∧ s.spillClaim.map (·.1) = some 0 ∧
        s.config.active.share.toNat ≤ s.transit.runCount) ∧
    (pass.running ∧ pass.transit.dPort = none ∧ pass.transit.forwardQueue = [] ∧ pass.spillClaim = none) := by
  decide +kernel

/-- The claim's obstacles: a stale write, a presented write, no free tag, no attempt, a publish whose turn has not come. A
body write and a publish under tag 3, the lower tags in use; a record of 20 cells from an address 8 short of a boundary. -/
theorem witness_SpillWritesHaveTheirTurn :
    (let u : TagUse := ⟨.body, false, true⟩;
      let busy := fun (s : State) (g : TagState) =>
        { s with spill := { s.spill with tags := [.inUse u, .inUse u, .inUse u, g] } };
      let turn := fun (a : Attempt) (k : Nat) => { a with writes := [], unacknowledged := k };
      let a := recordAttempt pass.config.active (filed 100).cells none 0 800 8;
      (TagState.inUse { u with stale := true } ∈ (tagged writing { u with stale := true }).spill.tags) ∧
        (∀ g ∈ (busy writing (.inUse u)).spill.tags, g ≠ .free) ∧ pass.spill.attempt = none ∧
        (turn a 1).writes = [] ∧ (turn a 1).unacknowledged ≠ 0 ∧
        (busy writing .free).spill.attempt.isSome = true ∧ (busy writing .free).transit.dPort = none ∧
        (busy writing .free).spill.tags[3]? = some .free ∧
        (∀ m < 3, (busy writing .free).spill.tags[m]? ≠ some .free) ∧ a.writes ≠ [] ∧
        (turn a 0).writes = [] ∧ (turn a 0).unacknowledged = 0 ∧ (turn a 0).publish.isSome = true) ∧
    (0x90000FF8 % 8 = 0 ∧
      (cutBursts 20 0x90000FF8 (List.replicate 20 0x52)).map (fun w => (w.address, w.cells.length)) =
        [(0x90000FF8, 1), (0x90001000, 16), (0x90001080, 3)]) := by
  decide +kernel

/-- An entry's request; a spill write. -/
theorem witness_DPortTakeFreesChannel :
    (let s := { pass with transit := { pass.transit with dPort := some ⟨readA, .forward 0⟩ } };
      s.running ∧ s.transit.dPort = some ⟨readA, .forward 0⟩) ∧
    (let s := tagged { writing with transit := { pass.transit with dPort := some ⟨spillOut, .spill⟩ } } ⟨.body, false, false⟩;
      s.running ∧ s.transit.dPort = some ⟨spillOut, .spill⟩ ∧
        s.spill.tags[spillOut.tag.toNat]? = some (.inUse ⟨.body, false, false⟩)) := by
  decide +kernel

/-- The entry CUT and answered. -/
def cut : Entry := { entry with path := .cut, answer := .sent ⟨.fault, []⟩ }

/-- An entry of the same key that is not yet granted. -/
def older : Entry := { entry with id := 1, path := .queued, downstream := .waiting }

/-- Two of the same key whose answers wait: a declined one, and a CUT one. -/
def behind : List Entry :=
  [{ entry with id := 2, origin := .declined .window, path := .none, downstream := .notSent, answer := .ready ⟨.fault, []⟩ },
   { entry with id := 3, path := .cut, answer := .ready ⟨.fault, []⟩ }]

/-- The response `okay` matches the entry `e` of a table. -/
abbrev matching (pre : List Entry) (e : Entry) (post : List Entry) : Prop :=
  let s := holding observing (pre ++ e :: post);
  s.running ∧ okay.initiator ≠ 15 ∧ abandonedOf s.transit.abandoned ⟨okay.initiator, okay.tag⟩ = 0 ∧
    s.transit.table = pre ++ e :: post ∧ (∀ x ∈ pre ++ post, x.id ≠ e.id) ∧
    (∀ x ∈ pre, x.key = e.key → x.downstream = .taken → x.path ≠ .issued ∧ x.path ≠ .cut) ∧
    e.key = ⟨okay.initiator, okay.tag⟩ ∧ e.downstream = .taken

/-- With others of its key on both sides: ISSUED without a snoop beat, as a READ, and as a WRITE with one. -/
theorem witness_MatchedResponseActs :
    (matching [other, older] entry behind ∧ entry.path = .issued ∧ entry.snoop = none) ∧
    matching [other, older] { entry with kind := .read } behind ∧
    (let e := snooped .command ⟨3, 0xFF⟩ 1;
      matching [other, older] e behind ∧ e.path = .issued ∧ e.kind = .write ∧ okay.status = .okay ∧
        e.snoop = some ⟨.command, ⟨3, 0xFF⟩, 1⟩) := by
  decide +kernel

/-- CUT, answered and not yet; and as the only one of its key, ISSUED, and CUT and answered. -/
theorem witness_MatchedResponseActs_cut :
    (matching [other, older] cut behind ∧ cut.path = .cut) ∧
    matching [other, older] { cut with answer := .ready ⟨.fault, []⟩ } behind ∧
    (matching [other] entry [] ∧ matching [other] cut [] ∧ ∀ x ∈ [other] ++ [], x.key ≠ cut.key) :=
  ⟨by decide +kernel, by decide +kernel, by decide +kernel⟩

/-- Against an abandoned count, and without one beside a waiting entry of its key, in each mode. -/
theorem witness_OrphanResponseIsReported :
    let none' := fun s : State => ∀ e ∈ s.transit.table,
      e.key = ⟨okay.initiator, okay.tag⟩ → e.downstream = .taken → e.path ≠ .issued ∧ e.path ≠ .cut;
    let waits := { entry with path := .queued, downstream := .waiting };
    okay.initiator ≠ 15 ∧
    (let s := fun t : State => { t with transit := { t.transit with abandoned := [⟨key, 255⟩] } };
      (s pass).running ∧ (s observing).running ∧ abandonedOf (s pass).transit.abandoned key ≠ 0) ∧
    (let s := holding pass [other, waits];
      s.running ∧ abandonedOf s.transit.abandoned key = 0 ∧ none' s ∧ s.config.active.mode? = some .pass) ∧
    (let s := holding observing [other, waits];
      s.running ∧ abandonedOf s.transit.abandoned key = 0 ∧ none' s ∧ s.config.active.mode? = some .observe ∧
        s.trigger.state = .disarmed ∧ s.store.openRecord = none) := by
  decide +kernel

/-- At place 1 of its key's list and at the deadline exactly: under REPORT; under CUT a waiting entry; under CUT a granted one.
Without effect: answered; marked before; one tick early; no deadline; a place past the list's end. -/
theorem witness_OverdueExpiryActs :
    let w := { entry with path := .queued, downstream := .waiting };
    let pre := [other, { entry with id := 1, overdueSeen := true }];
    let s := holding pass (pre ++ entry :: [other]);
    let c := withSet s fun p => { p with overdueAction := 1 };
    let d := withSet (holding observing (pre ++ w :: [])) fun p => { p with overdueAction := 1 };
    let early := { s with clock := { s.clock with raw := 3499 } };
    s.running ∧ c.running ∧ d.running ∧ early.running ∧ s.transit.table = pre ++ entry :: [other] ∧
      (∀ x ∈ pre ++ [other], x.id ≠ entry.id) ∧ (pre.countP fun x => x.key == entry.key) = 1 ∧
      entry.deadline = some 3500 ∧ (3500 - entry.takeTime).toNat = (s.clock.raw - entry.takeTime).toNat ∧
      (early.clock.raw - entry.takeTime).toNat < (3500 - entry.takeTime).toNat ∧
      entry.answer = .pending ∧ entry.overdueSeen = false ∧ s.config.active.overdueAction? = some .report ∧
      c.config.active.overdueAction? = some .cut ∧ entry.downstream ≠ .waiting ∧ w.downstream = .waiting ∧
      { entry with answer := .ready ⟨.fault, []⟩ }.answer ≠ .pending ∧ other.deadline = none ∧
      (s.transit.table.countP fun x => x.key == entry.key) ≤ 2 := by
  decide +kernel

/-- Each timer at its limit, one tick before it, and none; no watch that is WATCHING; and no stage. -/
theorem witness_TimedEventsAct :
    (let s := fun t => { heldBack with transit := { heldBack.transit with holdTimer := some t } };
      (s 65536).running ∧ (s 65536).config.active.holdLimit.toNat = 65536 ∧ (s 65535).running) ∧
    (let s := fun t => { pass with trigger := { pass.trigger with trigout := some t } };
      (s 8).running ∧ (s 7).running) ∧
    (let s := fun raw : Time =>
        { pass with clock := { pass.clock with raw := raw, lastPulse := some 100, lossWatch := .watching } };
      (s 228).running ∧ 2 * (s 228).config.active.period.toNat = ((228 : Time) - 100).toNat ∧ (s 227).running ∧
        ((227 : Time) - 100).toNat < 2 * (s 227).config.active.period.toNat) ∧
    (let s := fun t => armed (withSet observing fun p =>
        { p with stages := List.replicate 4 { StageDef.default 1 with timeout := 5000 } }) 1 t;
      (s (some 5000)).running ∧ ((s none).config.active.stage 1).timeout.toNat = 5000 ∧ (s (some 4999)).running ∧
        (s none).running) ∧
    (pass.transit.holdTimer = none ∧ pass.trigger.trigout = none ∧ pass.clock.lossWatch ≠ .watching ∧
      pass.trigger.state = .disarmed ∧ (capturing observing).running ∧ (capturing observing).trigger.state = .capturing) := by
  decide +kernel

/-- What makes an observation, in the terms of the statements. -/
theorem makes {s : State} {b : ObsBody} (h : s.observes b = true) : ¬s.makesNone b := fun hn => by
  rw [(s.makesNone_iff b).1 hn] at h
  exact Bool.noConfusion h

/-- A MARK with cause SYNC_LOST; one with cause SLIP. -/
def lostMark : ObsBody := { kind := .mark, cause := some .syncLost }
def slipMark : ObsBody := { kind := .mark, cause := some .slip }

/-- OBSERVE mode, every stage the same, and a watch table that every MARK hits; ARMED at stage 1. -/
def staged (d : StageDef) (os : List Bool) (n : Nat) : State :=
  let s := withSet observing fun p =>
    { p with stages := List.replicate 4 d,
             watch := List.replicate 16 { WatchEntry.default with enabled := true, kinds := 0x40 } }
  { s with trigger := { s.trigger with state := .armed { stage := 1, outcomes := os, cumulative := n, timer := none } } }

/-- SELF_QUIET with a 16 KiB ring at 0x00_9000_0000 and the page right behind it. -/
def quietSet (s : State) : State :=
  withSet s fun p => { ringSet p with selfQuiet := true, pageEnable := true, pageBase := 0x90004000 }

/-- A finished read of a burst. -/
def burst (a : Addr) (n : Nat) : ObsBody := { kind := .read, initiator := some 3, address := some a, beats := some n }

/-- Nothing is made: PASS mode; SELF_QUIET at both ends of the ring and at the page. Made: a byte outside on either side, and
a burst in ring and page but in neither alone (log entry 29). -/
theorem witness_ObservationRunsItsPath_made :
    pass.makesNone lostMark ∧ (quietSet observing).makesNone (burst 0x90000000 16) ∧
    (quietSet observing).makesNone (burst 0x90003FF8 1) ∧ (quietSet observing).makesNone (burst 0x90004038 1) ∧
    ¬(quietSet observing).makesNone (burst 0x8FFFFFF8 2) ∧ ¬(quietSet observing).makesNone (burst 0x90004038 2) ∧
    ¬(quietSet observing).makesNone (burst 0x90003FF8 2) ∧ ¬observing.makesNone lostMark :=
  ⟨(State.makesNone_iff _ _).2 (by decide +kernel), (State.makesNone_iff _ _).2 (by decide +kernel),
    (State.makesNone_iff _ _).2 (by decide +kernel), (State.makesNone_iff _ _).2 (by decide +kernel),
    makes (by decide +kernel), makes (by decide +kernel), makes (by decide +kernel), makes (by decide +kernel)⟩

/-- DISARMED; a LINE stage; a SLIP stage and another MARK; a full window that stays below C; a NEXT stage at C with W = 0 and
a full count; a SLIP stage; a FIRE stage with no room, with exactly R cells free, with a full directory, and with Q of 0 and an
IDLE engine. -/
theorem witness_ObservationRunsItsPath :
    let d := fun (act : BitVec 2) (c w : BitVec 7) => { StageDef.default act with count := c, window := w, watchSet := 1 };
    let fine := fun (s : State) (b : ObsBody) => s.observes b = true ∧ s.store.openRecord = none;
    let kind := fun (s : State) => (s.config.active.stage 1).condition?;
    let line := staged { d 0 1 1 with condition := 1 } [] 0;
    let slip := staged { d 0 1 1 with condition := 2 } [] 0;
    let exact := storing (staged (d 1 1 1) [] 0) [filed (16384 - 197)];
    (fine observing lostMark ∧ observing.trigger.state = .disarmed) ∧ (fine line lostMark ∧ kind line = some .line) ∧
    (fine slip lostMark ∧ fine slip slipMark ∧ kind slip = some .slip ∧ (d 0 1 1).action? = some .next) ∧
    (fine (staged (d 0 3 3) [true, false, true] 0) lostMark ∧ kind (staged (d 0 3 3) [] 0) = some .hits ∧
      [true, false, true].length ≤ (d 0 3 3).window.toNat ∧ [false, true, true].count true < (d 0 3 3).count.toNat) ∧
    (fine (staged (d 0 64 0) [] 64) lostMark ∧ (d 0 64 0).count.toNat ≤ min 64 (64 + 1) ∧
      (d 0 64 0).action? = some .next) ∧
    (fine (low (staged (d 1 1 1) [] 0)) lostMark ∧ (d 1 1 1).action? = some .fire ∧
      (low (staged (d 1 1 1) [] 0)).freeCells < (staged (d 1 1 1) [] 0).config.active.reservation) ∧
    (fine exact lostMark ∧ exact.config.active.reservation = exact.freeCells ∧ exact.store.directory.length < 256 ∧
      exact.config.active.postCount ≠ 0) ∧
    (let s := storing (staged (d 1 1 1) [] 0) (List.replicate 256 (filed 5)); fine s lostMark) ∧
    (let s := withSet exact fun p => { ringSet p with postCount := 0 };
      let s := { s with spill := { s.spill with engine := .idle } };
      fine s lostMark ∧ s.config.active.reservation = s.freeCells ∧ s.config.active.postCount = 0) := by
  decide +kernel

/-- With a record open: a suppressed observation; one kept, two due; one kept that retriggers; the last one due, with the engine
OFF and IDLE; and one that reaches MAX_OBS. -/
theorem witness_OpenRecordTakesObservation :
    let opened := fun (s : State) (r : OpenRecord) =>
      { s with store := { s.store with openRecord := some r }, trigger := { s.trigger with state := .capturing } };
    let fine := fun (s : State) (b : ObsBody) (r : OpenRecord) => s.observes b = true ∧ s.store.openRecord = some r ∧
      s.trigger.state = .capturing;
    let idle := fun s : State => { s with spill := { s.spill with engine := .idle } };
    let hushed := withSet observing fun p => { p with suppress := 8 };
    let hit := staged { StageDef.default 1 with watchSet := 1 } [] 0;
    let full := { blank with observations := List.replicate 63 (seen 1 none) };
    (fine (opened hushed blank) (burst 0 1) blank ∧ (hitSet hushed.config.active.watch (burst 0 1) none) = 0 ∧
      hushed.config.active.suppress.getLsbD 3 = true) ∧
    (fine (opened observing blank) lostMark blank ∧ 1 < blank.postRemaining ∧
      blank.observations.length + 1 ≠ observing.config.active.maxObs.toNat ∧ lostMark.initiator = none) ∧
    (fine (opened hit blank) lostMark blank ∧
      hit.config.active.fireStage? = some { StageDef.default 1 with watchSet := 1 } ∧
      (hitSet hit.config.active.watch lostMark none &&& 1) ≠ 0) ∧
    (let r := { blank with postRemaining := 1 };
      fine (opened observing r) lostMark r ∧ r.postRemaining ≤ 1 ∧ r.aborted = false ∧
        fine (opened (idle observing) r) lostMark r) ∧
    (fine (opened observing full) lostMark full ∧ full.aborted = false ∧
      full.observations.length + 1 = observing.config.active.maxObs.toNat) := by
  decide +kernel

/-- The default set: stage 0 is a FIRE stage and the first; a set with no FIRE stage. -/
theorem witness_OpenRecordTakesObservation_stage :
    (ParamSet.defaults.stages[0]? = some (StageDef.default 1) ∧ (StageDef.default 1).action? = some .fire) ∧
    (ParamSet.defaults.stages[3]? = some (StageDef.default 1) ∧ (StageDef.default 0).action? ≠ some .fire) ∧
    ∀ d ∈ { ParamSet.defaults with stages := List.replicate 4 (StageDef.default 0) }.stages, d.action? ≠ some .fire := by
  decide +kernel

/-- The last entry, hit by a MARK, its count at the largest. -/
theorem witness_HitStatisticsFollowHits :
    ¬(staged (StageDef.default 0) [] 0).makesNone lostMark ∧
    (staged (StageDef.default 0) [] 0).watchStats[15]?.isSome = true ∧
    (hitSet (staged (StageDef.default 0) [] 0).config.active.watch lostMark none).getLsbD 15 = true :=
  ⟨makes (by decide +kernel), by decide +kernel, by decide +kernel⟩

theorem witness_FullResetQuiesces :
    ((holding pass [entry]).takesFrame f1 1 ∧ (holding pass [entry]).transit.table ≠ []) ∧
    (pass.takesFrame f1 1 ∧ pass.transit.table = []) ∧
    ((quiet pass 0).running ∧ (quiet pass 0).quiescing = true ∧ (quiet pass 0).transit.table = []) ∧
    ((quiet (holding pass [entry]) 0).running ∧ (quiet (holding pass [entry]) 0).quiescing = true) := by
  decide +kernel

/-- At the limit exactly, with an abandoned count at its largest. -/
theorem witness_QuiesceAbandonAnswersEveryEntry :
    let s := quiet (holding pass [other, entry]) 1048576;
    let s := { s with transit := { s.transit with abandoned := [⟨key, 255⟩] } };
    s.running ∧ s.transit.quiesceTimer = some 1048576 ∧ s.config.active.quiesceLimit.toNat = 1048576 ∧
      s.transit.table ≠ [] ∧ abandonedOf s.transit.abandoned key ≤ 255 := by
  decide +kernel

theorem witness_PowerOnResetsWholePart :
    reset.held = true ∧ pass.held = false := by
  decide +kernel

theorem witness_CaptureResetEmptiesCapture :
    (spilling .waitSpace [filed 9]).takesFrame f1 1 ∧ (spilling (.fault .initFault) []).takesFrame f1 1 := by
  decide +kernel

/-- Each mode and state; a FIRE on the line with a full directory; a rise before the line has been low; a pulse shorter than a
tick; and a gap shorter than a tick once it has been low. -/
theorem witness_TriginEdgeActsByMode :
    (pass.running ∧ pass.config.active.triginMode? = some .off ∧ pass.trigger.state = .disarmed) ∧
    (let s := lineArmed 1;
      s.running ∧ s.config.active.triginMode? = some .stage ∧ (s.config.active.stage 0).condition? = some .line ∧
        (s.config.active.stage 0).action? = some .next) ∧
    (let s := armed (withSet observing fun p => { p with triginMode := 1 }) 3 none;
      s.running ∧ (s.config.active.stage 3).condition? ≠ some .line) ∧
    (let s := capturing (lineArmed 2);
      s.running ∧ s.trigger.state = .capturing ∧ s.store.openRecord = some blank ∧
        s.config.active.triginMode? = some .direct) ∧
    (let s := low (lineArmed 2);
      s.running ∧ s.config.active.triginMode? = some .direct ∧ s.freeCells < s.config.active.reservation) ∧
    (let s := storing (lineArmed 2) [filed (16384 - 197)];
      s.running ∧ s.config.active.triginMode? = some .direct ∧ s.config.active.reservation = s.freeCells ∧
        s.store.directory.length < 256 ∧ s.config.active.postCount ≠ 0) ∧
    (let s := storing (withSet (lineArmed 1) fun p => { p with stages := p.stages.map fun d => { d with action := 1 } })
        (List.replicate 256 (filed 5));
      s.running ∧ s.config.active.triginMode? = some .stage ∧ (s.config.active.stage 0).condition? = some .line ∧
        (s.config.active.stage 0).action? = some .fire ∧ 256 ≤ s.store.directory.length) ∧
    ((⟨false, true⟩ : LineRise).lowTick = false ∧ pass.trigger.lineSeenLow = false ∧
      (⟨true, false⟩ : LineRise).highTick = false ∧ (run pass (.triginEdge ⟨true, true⟩)).trigger.lineSeenLow = true) := by
  decide +kernel

/-- Among them CAPTURING with the engine OFF, and IDLE with no other record. -/
theorem witness_ArmAndDisarmCommandsAct :
    (observing.takesFrame f1 1 ∧ observing.trigger.state = .disarmed ∧ observing.config.active.mode? = some .observe) ∧
    (pass.takesFrame f1 1 ∧ pass.trigger.state = .disarmed ∧ pass.config.active.mode? = some .pass) ∧
    (waiting.takesFrame f1 1 ∧ waiting.trigger.state ≠ .disarmed) ∧ (armed observing 3 (some 9)).takesFrame f1 1 ∧
    (let s := capturing observing;
      s.takesFrame f1 1 ∧ s.trigger.state = .capturing ∧ s.store.openRecord = some blank) ∧
    (let s := capturing (spilling .idle []);
      s.takesFrame f1 1 ∧ s.trigger.state = .capturing ∧ s.store.openRecord = some blank ∧ s.spill.engine = .idle) := by
  decide +kernel

/-- Refused for the directory at 256 records; accepted with the cells exactly enough; accepted with Q of 0 and an
IDLE engine. -/
theorem witness_ForceCommandActs :
    (pass.takesFrame f1 1 ∧ pass.trigger.state = .disarmed) ∧
    (let s := capturing observing;
      s.takesFrame f1 1 ∧ s.trigger.state = .capturing ∧ s.store.openRecord = some blank) ∧
    (let s := armed (storing observing (List.replicate 256 (filed 5))) 0 none;
      s.takesFrame f1 1 ∧ 256 = s.store.directory.length ∧ s.config.active.reservation ≤ s.freeCells) ∧
    (let s := armed (storing observing [filed (16384 - 197)]) 0 none;
      s.takesFrame f1 1 ∧ s.config.active.reservation = s.freeCells ∧ s.store.directory.length < 256 ∧
        s.config.active.postCount ≠ 0) ∧
    (let s := withSet (armed (spilling .idle []) 0 none) fun p => { p with postCount := 0 };
      s.takesFrame f1 1 ∧ s.config.active.reservation ≤ s.freeCells ∧ s.store.directory.length < 256 ∧
        s.config.active.postCount = 0 ∧ s.spill.engine = .idle ∧
        ((s.replied f1 [] .done).recordOpened .forcePort false).store.openRecord.isSome = true) := by
  decide +kernel

theorem witness_ConfigurationWordCommandsAct :
    (pass.takesFrame f7 7 ∧ (pass.config.active.readWord 0x21A).isSome = true ∧
      (pass.config.staged.readWord 0x21A).isSome = true) ∧
    (pass.config.active.readWord 0x202 = none ∧ pass.config.staged.readWord 0x202 = none ∧
      pass.config.staged.writeWord 0x202 1 = none) ∧
    ((pass.config.staged.writeWord 0x21A 1).isSome = true ∧ pass.config.applyPending = false) ∧
    (waiting.takesFrame f7 7 ∧ (waiting.config.staged.writeWord 0x21A 1).isSome = true ∧
      waiting.config.applyPending = true) := by
  decide +kernel

theorem witness_WrittenWordReadsBack :
    (ParamSet.defaults.writeWord 0x1FA 5).isSome = true ∧ (0x1F9 : Nat) ≠ 0x1FA := by
  decide +kernel

/-- The last counter and the index after it; word 0x400 in a quiesce; and a state whose absent items are all present. -/
theorem witness_ReadStatusSendsWord :
    (0x439 : BitVec 16) ≠ 0x470 ∧ 7 ≤ f7.bytes ∧ pass.running ∧ pass.quiescing = false ∧ f7.beganInQuiesce = false ∧
    (pass.statusWord 0x439).isSome = true ∧ pass.statusWord 0x43A = none ∧ pass.conditions.counters.length = 26 ∧
    pass.watchStats.length = 16 ∧ pass.spill.tags.length = 4 ∧ pass.watchStats[15]?.isSome = true ∧
    ((quiet pass 0).running ∧ ((quiet pass 0).statusWord 0x400).isSome = true) ∧
    (let s := { capturing (spilling (.fault .oversize) [filed 9]) with
        clock := { pass.clock with lastPulse := some 5400036, lastPhase := some (-36) } };
      s.statusWord 0x443 = some ⟨0x01000009, 0x01011FFF⟩ ∧ s.statusWord 0x445 = some ⟨0x010FE000, 0x010FF7FF⟩ ∧
        s.statusWord 0x460 = some ⟨0x00000076, 0x0000FF77⟩ ∧ s.statusWord 0x479 = some ⟨0xFFFFFFDC, 0xFFFFFFFF⟩) := by
  decide +kernel

theorem witness_ApplyIsChecked :
    (let s := { pass with config := { pass.config with staged := { pass.config.staged with share := 0 } } };
      s.takesFrame f1 1 ∧ s.config.applyPending = false ∧ s.config.staged.firstFailed = some 8) ∧
    (let s := capturing observing;
      s.takesFrame f1 1 ∧ s.config.applyPending = false ∧ s.config.staged.firstFailed = none ∧ s.capturing = true) ∧
    (pass.takesFrame f1 1 ∧ pass.config.applyPending = false ∧ pass.config.staged.firstFailed = none ∧
      pass.capturing = false ∧ pass.applyWaitsOnSpill = false) ∧
    (waiting.takesFrame f1 1 ∧ waiting.config.applyPending = true) := by
  decide +kernel

/-- The effect that the third clause of that statement speaks of. -/
theorem witness_ApplyIsChecked_effect :
    let s := { pass with config := { pass.config with refusalCause := none, applyPending := true } };
    exec .applyTakesEffect s = .next (run s .applyTakesEffect) := rfl

/-- With the route changed to SPILL; with nothing changed. -/
theorem witness_ApplyTakesEffectWhole :
    (let s := { due with config := { due.config with staged := ringSet due.config.staged } };
      s.held = false ∧ s.config.applyPending = true ∧ s.capturing = false ∧ s.applyWaitsOnSpill = false ∧
        s.config.staged.geometryDiffers s.config.active = true) ∧
    (due.held = false ∧ due.config.applyPending = true ∧ due.capturing = false ∧ due.applyWaitsOnSpill = false) := by
  decide +kernel

theorem witness_RegisterCommandsAct :
    pass.takesFrame f1 1 ∧ pass.takesFrame f7 7 := by
  decide +kernel

theorem witness_AckConditionsClearsNamed :
    pass.takesFrame f7 7 ∧ (quiet pass 0).running ∧ (quiet pass 0).quiescing = true ∧ 7 ≤ f7.bytes := by
  decide +kernel

/-- At the last cell, and one past it. -/
theorem witness_ReadRecordStreamsHead :
    (let s := storing pass [filed 9];
      s.takesFrame ⟨3, false⟩ 3 ∧ s.store.directory = filed 9 :: [] ∧ s.config.active.drainRoute? = some .port ∧
        8 < (filed 9).cells.length ∧ (filed 9).cells.length ≤ 9) ∧
    (pass.takesFrame ⟨3, false⟩ 3 ∧ pass.store.directory = []) ∧
    ((spilling .idle [filed 9]).takesFrame ⟨3, false⟩ 3 ∧
      (spilling .idle [filed 9]).config.active.drainRoute? = some .spill) := by
  decide +kernel

theorem witness_DiscardHeadRemovesHead :
    (let s := storing pass [filed 9, filed 5];
      s.takesFrame f1 1 ∧ s.store.directory = filed 9 :: [filed 5] ∧ s.config.active.drainRoute? = some .port) ∧
    (pass.takesFrame f1 1 ∧ pass.store.directory = []) ∧
    ((spilling .idle [filed 9]).takesFrame f1 1 ∧ (spilling .idle [filed 9]).config.active.drainRoute? = some .spill) := by
  decide +kernel

/-- INIT_FAULT; and another fault with each outcome of a placement: no room, oversize, lone wrap, record. -/
theorem witness_SpillResumeActs :
    ((spilling (.fault .initFault) []).takesFrame f1 1) ∧
    (let o := fun (s : State) (n : Nat) => placement s.config.active.area s.spill.producer
        (ringFree s.config.active.area s.spill.producer s.spill.consumer) n s.spill.wrapCount;
      let s := fun n => spilling (.fault .publishFault) [filed n];
      (s 100).takesFrame f1 1 ∧ (s 100).store.directory = filed 100 :: [] ∧ o (s 100) 100 = .record (some 15680) 0 800 8 ∧
        o (s 2040) 2040 = .oversize ∧ o (s 500) 500 = .loneWrap 15680 8 ∧
        o { s 100 with spill := { (s 100).spill with consumer := 0 } } 100 = .noRoom) := by
  decide +kernel

theorem witness_SpillResumeActs_refused : pass.takesFrame f1 1 ∧ ∀ c, pass.spill.engine ≠ .fault c :=
  ⟨by decide +kernel, fun _ h => EngineState.noConfusion h⟩

/-- The only record; two records; two records with a stale publish in use; INIT_FAULT. -/
theorem witness_SpillSkipRemovesHead :
    (let s := spilling (.fault .oversize) [filed 2040];
      s.takesFrame f1 1 ∧ s.spill.engine = .fault .oversize ∧ s.store.directory = filed 2040 :: []) ∧
    (let s := spilling (.fault .writeFault) [filed 9, filed 5];
      s.takesFrame f1 1 ∧ s.spill.engine = .fault .writeFault ∧ s.store.directory = filed 9 :: filed 5 :: [] ∧
        s.spill.tags = List.replicate 4 .free) ∧
    (let u : TagUse := ⟨.publish 800 8, true, true⟩;
      let s := tagged (spilling (.fault .publishFault) [filed 9, filed 5]) u;
      s.takesFrame f1 1 ∧ s.spill.engine = .fault .publishFault ∧ TagState.inUse u ∈ s.spill.tags ∧ u.stale = true ∧
        u.role ≠ .body) ∧
    (let s := spilling (.fault .initFault) [filed 9];
      s.takesFrame f1 1 ∧ s.spill.engine = .fault .initFault) := by
  decide +kernel

/-- One byte short. -/
theorem witness_ShortAndUnknownFramesRefused :
    (pass.takesFrame ⟨6, false⟩ 1 ∧ (Instr.writeStaged ⟨6, false⟩ 0 1).frameParts.map (·.1) = some ⟨6, false⟩ ∧
      readsWord (.writeStaged ⟨6, false⟩ 0 1) = false ∧ 6 < leastFrameBytes (.writeStaged ⟨6, false⟩ 0 1)) ∧
    ((Instr.readStatus ⟨6, false⟩ 0x400).frameParts.map (·.1) = some ⟨6, false⟩ ∧
      readsWord (.readStatus ⟨6, false⟩ 0x400) = true ∧ 6 < leastFrameBytes (.readStatus ⟨6, false⟩ 0x400)) ∧
    (pass.takesFrame f1 1 ∧ (Instr.unknownCommandByte f1 0x11).frameParts.map (·.1) = some f1) := by
  decide +kernel

theorem witness_BusyFramesHaveNoEffect :
    ((quiet pass 0).running ∧ (Instr.arm f1).frameParts.map (·.1) = some f1 ∧ 1 ≤ f1.bytes ∧
      (quiet pass 0).quiescing = true ∧ Instr.arm f1 ≠ .readStatus f1 0x400) ∧
    (pass.running ∧ (Instr.arm ⟨0, false⟩).frameParts.map (·.1) = some ⟨0, false⟩) := by
  decide +kernel

theorem witness_FramesReadBack :
    (Instr.writeAlertEnable f7 0xFFFFFFFF).wellFormed = true ∧
    (Instr.writeAlertEnable f7 0xFFFFFFFF).frameParts.map (·.1) = some f7 ∧
    (Instr.writeAlertEnable f7 0xFFFFFFFF).frameParts.map (·.2.length) = some f7.bytes := by
  decide +kernel

/-- A MARK, initiators 14 and 15, each filter, a zero and a nonzero floor; a range of one byte, its burst ending on that byte
or one before it; a compare; entry 15 of a full table. -/
theorem witness_WatchTestsDecide :
    (let e := fun (c : BitVec 2) (n : BitVec 24) => { WatchEntry.default with statusFilter := c, floor := n };
      lostMark.initiator = none ∧ (14 : Initiator) ≠ 15 ∧
        (e 0 0).statusFilter? = some .any ∧ (e 1 0).statusFilter? = some .okay ∧ (e 2 0).statusFilter? = some .fault ∧
        (e 0 0).floor = 0 ∧ (e 0 0xFFFFFF).floor ≠ 0 ∧
        ({ kind := .late, latency := some (2 ^ 24 - 1) } : ObsBody).latency = some (2 ^ 24 - 1)) ∧
    (let e : WatchEntry := { WatchEntry.default with hasRange := true, low := 0x107, high := 0x107 };
      WatchEntry.default.hasRange = false ∧ e.hasRange = true ∧ lostMark.address = none ∧
        (burst 0xF8 2).address = some 0xF8 ∧ (burst 0xF8 2).beats = some 2 ∧ e.addressTest (burst 0xF8 2) = true ∧
        e.addressTest (burst 0xF8 1) = false) ∧
    (WatchEntry.default.hasCompare = false ∧ { WatchEntry.default with hasCompare := true }.hasCompare = true) ∧
    15 < 16 ∧ (hitSet (staged (StageDef.default 0) [] 0).config.active.watch lostMark none).getLsbD 15 = true := by
  decide +kernel

/-- A record of exactly MAX_OBS observations. -/
theorem witness_RecordFitsReservation :
    let r := { blank with observations := List.replicate 64 (seen 1 none) };
    r.observations.length = ParamSet.defaults.maxObs.toNat ∧ ParamSet.defaults.dataCells = 0 ∧ r.dataBeats = 0 := by
  decide +kernel

/-- A MARK(SOFTWARE), which carries a mark value and no address, and an observation without a mark value. -/
theorem witness_RecordFitsReservation_observation :
    let b : ObsBody := { kind := .mark, cause := some .software, markValue := some 0x2A };
    b.markValue = some 0x2A ∧ b.address = none ∧ (burst 0 1).markValue = none := by
  decide +kernel

/-- The least and the largest producer offset, a record that ends at the area's end, a lone wrap, and the boundary of each other
case: the first length that is oversize, a record that needs every free byte behind a marker, and one cell more; and a valid
ring of 16 KiB. -/
theorem witness_PlacementStaysInFreeBytes :
    (let a := 16320;
      16 ≤ a ∧ a % 8 = 0 ∧ 0 < a ∧ a - 8 < a ∧ (a - 8) % 8 = 0 ∧
        placement a 0 (ringFree a 0 0) 2039 7 = .record none 0 16312 7 ∧
        placement a (a - 8) (ringFree a (a - 8) 8) 1 7 = .record none (a - 8) 0 8 ∧
        placement a (a - 8) (ringFree a (a - 8) 8) 2 7 = .loneWrap (a - 8) 8 ∧
        placement a 0 (ringFree a 0 0) 2040 7 = .oversize ∧
        placement a 8 (ringFree a 8 0) 2039 7 = .noRoom ∧
        placement a (a - 16) (ringFree a (a - 16) 808) 100 7 = .record (some (a - 16)) 0 800 8 ∧
        placement a (a - 16) (ringFree a (a - 16) 808) 101 7 = .loneWrap (a - 16) 8) ∧
    ({ ParamSet.defaults with spillSize := 0x4000 } : ParamSet).ringValid = true := by
  decide +kernel

/-- A state whose attempt is another. -/
def attempting (s : State) (a : Attempt) : State := { s with spill := { s.spill with attempt := some a } }

/-- An INIT attempt with its last write to come, and that write's tag in use. -/
def initiating (d : List DirectoryEntry) : State :=
  attempting (tagged (spilling .init d) ⟨.body, false, true⟩)
    { initAttempt (ringSet pass.config.active) with unacknowledged := 1 }

/-- A lone wrap attempt of that set. -/
def wrapping : Attempt := loneWrapAttempt (ringSet pass.config.active) 15680 8

/-- The answer of tag 0 is due to a write of the current attempt. -/
abbrev current (s : State) (u : TagUse) (k : AttemptKind) : Prop :=
  s.running ∧ answer15.initiator = 15 ∧ s.spill.tags[answer15.tag.toNat]? = some (.inUse u) ∧ u.taken = true ∧
    u.stale = false ∧ s.spill.attempt.map (·.kind) = some k

/-- A write before the publish with more to come and with one; the last write of an INIT with no record and with one; and a
FAULT. -/
theorem witness_SpillAnswersAct :
    let b : TagUse := ⟨.body, false, true⟩;
    (current (tagged writing b) b .record ∧ answer15.status = .okay ∧
      (tagged writing b).spill.attempt.map (·.unacknowledged) = some 8) ∧
    current (attempting (tagged writing b) wrapping) b .loneWrap ∧ wrapping.unacknowledged = 1 ∧
    (current (initiating []) b .init ∧ (initiating []).store.directory = []) ∧
    (current (initiating [filed 9]) b .init ∧ (initiating [filed 9]).store.directory = filed 9 :: [] ∧
      (initiating [filed 9]).spill.tags.set answer15.tag.toNat .free = List.replicate 4 .free) ∧
    { answer15 with status := .fault }.status = .fault := by
  decide +kernel

/-- The publish of a record, the last and with another behind it; of a lone wrap; and one beside a stale publish. -/
theorem witness_SpillAnswersAct_publish :
    let u : TagUse := ⟨.publish 800 8, false, true⟩;
    (current (tagged writing u) u .record ∧ (tagged writing u).store.directory.length = 1) ∧
    (let s := tagged (storing writing [{ filed 100 with state := .spilling }, filed 9]) u;
      current s u .record ∧ s.store.directory.length = 2 ∧
        s.spill.tags.set answer15.tag.toNat .free = List.replicate 4 .free) ∧
    (let s := attempting (tagged (spilling .publish [filed 100]) u) wrapping;
      current s u .loneWrap ∧ s.store.directory = filed 100 :: []) ∧
    (let s := tagged writing u;
      let s := { s with spill := { s.spill with tags := [.inUse u, .inUse { u with stale := true }, .free, .free] } };
      let freed := { s with spill := { s.spill with tags := s.spill.tags.set answer15.tag.toNat .free } };
      current s u .record ∧ freed.stalePublishInUse) := by
  decide +kernel

/-- A stale write before the publish; a stale publish, with the engine in FAULT and IDLE with a record waiting; a lost tag; a
free tag, a tag past the four, and a write not yet taken. -/
theorem witness_OtherSpillAnswersAreAbsorbedOrOrphans :
    let b : TagUse := ⟨.body, true, true⟩;
    let u : TagUse := ⟨.publish 800 8, true, true⟩;
    let fits := fun (s : State) (r : Response) => s.running ∧ r.initiator = 15;
    let at' := fun (s : State) => s.spill.tags[answer15.tag.toNat]?;
    (let s := tagged (spilling .idle []) b;
      fits s answer15 ∧ at' s = some (.inUse b) ∧ b.taken = true ∧ b.stale = true ∧ b.role = .body) ∧
    (let s := tagged (spilling (.fault .publishFault) [filed 9]) u;
      fits s answer15 ∧ at' s = some (.inUse u) ∧ u.role = .publish 800 8 ∧ s.spill.engine ≠ .idle) ∧
    (let s := tagged (spilling .idle [filed 9]) u;
      fits s answer15 ∧ at' s = some (.inUse u) ∧ s.spill.engine = .idle ∧ s.store.directory = filed 9 :: [] ∧
        s.spill.tags.set answer15.tag.toNat .free = List.replicate 4 .free) ∧
    (let s := { pass with spill := { pass.spill with tags := [.lost, .free, .free, .free] } };
      fits s answer15 ∧ at' s = some .lost) ∧
    (fits pass answer15 ∧ at' pass = some .free ∧ pass.spill.tags[({ answer15 with tag := 4 } : Response).tag.toNat]? = none) ∧
    (let s := tagged writing ⟨.body, false, false⟩;
      fits s answer15 ∧ at' s = some (.inUse ⟨.body, false, false⟩)) := by
  decide +kernel

/-- OFF; a burst of two beats; the producer offset itself; one word past it; WAIT_SPACE with a record. -/
theorem witness_ConsumerWriteIsJudged :
    let at' := fun (v : Cell) => snooped .consumer ⟨v, 0xFF⟩ 1;
    let e := at' 15680;
    let s := { spilling .idle [] with transit := (holding pass ([other] ++ e :: [])).transit };
    let allowed := fun v : Nat => v % 8 = 0 ∧ v < s.config.active.area ∧
      (v + s.config.active.area - s.spill.consumer) % s.config.active.area ≤
        (s.spill.producer + s.config.active.area - s.spill.consumer) % s.config.active.area
    s.running ∧ abandonedOf s.transit.abandoned ⟨okay.initiator, okay.tag⟩ = 0 ∧ s.transit.table = [other] ++ e :: [] ∧
      (∀ x ∈ [other] ++ [], x.key ≠ e.key ∧ x.id ≠ e.id) ∧ e.key = ⟨okay.initiator, okay.tag⟩ ∧ e.path = .issued ∧
      e.downstream = .taken ∧ e.kind = .write ∧ okay.status = .okay ∧ s.config.active.mode? = some .pass ∧
      s.spill.engine ≠ .waitSpace ∧ s.spill.engine ≠ .off ∧ pass.spill.engine = .off ∧
      (snooped .consumer ⟨0, 0xFF⟩ 2).snoop.map (·.beats) ≠ some 1 ∧ allowed 15680 ∧ ¬ allowed 15688 ∧
      (spilling .waitSpace [filed 9]).spill.engine = .waitSpace ∧
      (spilling .waitSpace [filed 9]).store.directory = filed 9 :: [] := by
  decide +kernel

/-- The page off; not permitted; the mask not full; the first and last code, and those beside them. -/
theorem witness_CommandWriteIsJudged :
    let e := snooped .command ⟨5, 0xFF⟩ 1;
    let s := holding pass ([other] ++ e :: []);
    s.running ∧ abandonedOf s.transit.abandoned ⟨okay.initiator, okay.tag⟩ = 0 ∧ s.transit.table = [other] ++ e :: [] ∧
      (∀ x ∈ [other] ++ [], x.key ≠ e.key ∧ x.id ≠ e.id) ∧ e.key = ⟨okay.initiator, okay.tag⟩ ∧ e.path = .issued ∧
      e.downstream = .taken ∧ e.kind = .write ∧ okay.status = .okay ∧ s.config.active.mode? = some .pass ∧
      s.trigger.state = .disarmed ∧ s.config.active.pageEnable = false ∧
      (withSet s fun p => { p with pageEnable := true }).config.active.permit.getLsbD 3 = false ∧
      (paged s).config.active.permit.getLsbD 3 = true ∧ (paged s).config.active.pageEnable = true ∧
      (snooped .command ⟨5, 0xFE⟩ 1).snoop.map (·.beat.mask) ≠ some 0xFF ∧
      [1, 4, 5, 0, 6].map (fun v : Cell => (v.extractLsb' 0 8).toNat) = [1, 4, 5, 0, 6] := by
  decide +kernel

/-- What each code does: the unit DISARMED in either mode, ARMED with no room and with exactly R cells free, and CAPTURING. -/
theorem witness_CommandWriteIsJudged_codes :
    let fits := fun (s : State) => s.config.active.pageEnable = true ∧ s.config.active.permit.getLsbD 3 = true;
    (fits (paged pass) ∧ (paged pass).trigger.state = .disarmed ∧ (paged pass).config.active.mode? = some .pass) ∧
    (fits (paged observing) ∧ (paged observing).trigger.state = .disarmed ∧
      (paged observing).config.active.mode? = some .observe) ∧
    (let s := low (armed (paged observing) 0 none);
      fits s ∧ s.currentStage = some 0 ∧ s.freeCells < s.config.active.reservation) ∧
    (let s := armed (storing (paged observing) [filed (16384 - 197)]) 0 none;
      fits s ∧ s.config.active.reservation = s.freeCells ∧ s.store.directory.length < 256 ∧
        s.config.active.postCount ≠ 0) ∧
    (let s := capturing (paged observing);
      fits s ∧ s.trigger.state = .capturing ∧ s.store.openRecord = some blank) ∧
    (pass.config.active.pageEnable = false ∧ (paged observing).config.active.permit.getLsbD 4 = false) := by
  decide +kernel

/-- In PASS mode; in OBSERVE mode a pulse in EVERY whose phase is one beyond J; a rise before the line has been low, a pulse
shorter than a tick, and a line that has been low. -/
theorem witness_SyncPulseActs :
    pass.running ∧
    (let s := withSet observing fun p => { p with syncMode := 2, period := 100000, jitter := 35 };
      let s := { s with clock := { s.clock with raw := 5400036 } };
      s.running ∧ s.config.active.mode? = some .observe ∧ s.config.active.syncMode? = some .every ∧
        s.config.active.jitter.toNat < (phaseOf (s.clock.raw + s.clock.offset) s.config.active.period.toNat).natAbs) ∧
    ((⟨false, true⟩ : LineRise).lowTick = false ∧ pass.clock.lineSeenLow = false ∧
      (⟨true, false⟩ : LineRise).highTick = false ∧ (run pass (.syncPulse ⟨true, true⟩)).clock.lineSeenLow = true) := by
  decide +kernel

theorem witness_PhaseIsNearestGridDistance :
    0 < 64 := by
  decide +kernel

/-! Each invariant holds of a state that is not the reset's, and each such state takes a step. -/

/-- Two entries of two keys, neither of which could be answered or freed. -/
theorem witness_TransitTableStaysSound :
    let s := { holding pass [{ other with id := 3 }, { entry with id := 7 }] with pending := [.dPortTake] };
    s.tableSound ∧ step s = .next (after s (step s)) :=
  ⟨by unfold State.tableSound; decide +kernel, rfl⟩

/-- Two ring entries across the wrap of the sequence number. -/
theorem witness_HistoryRingStaysSound :
    let s := { pass with
      observer := { ring := [⟨seen 0 none, false⟩, ⟨seen (2 ^ 32 - 1) none, true⟩], sequence := 1 }, pending := [.grant] };
    s.ringSound ∧ step s = .next (after s (step s)) :=
  ⟨by unfold State.ringSound; decide +kernel, rfl⟩

theorem witness_ActiveSetStaysChecked :
    let s := { waiting with pending := [.apply f1] };
    s.setsSound ∧ step s = .next (after s (step s)) :=
  ⟨by unfold State.setsSound ParamSet.shaped; decide +kernel, rfl⟩

/-- A record in the directory, and CAPTURING with an open record that holds its reservation. -/
theorem witness_RecordStoreStaysSound :
    let s := { storing (capturing observing) [filed 5] with pending := [.take] };
    let s := { s with store := { s.store with reservation := 197 } };
    s.storeSound ∧ step s = .next (after s (step s)) := by
  refine ⟨⟨?_, ?_, by decide +kernel, by decide +kernel, by decide +kernel⟩, rfl⟩
  · unfold State.setsSound ParamSet.shaped; decide +kernel
  · show _ ∧ _ ∧ _ ∧ _ ∧ _ ∧ _
    decide +kernel

/-- A record attempt in WRITING, with its head SPILLING. -/
theorem witness_SpillEngineStaysSound :
    let s := { writing with pending := [.grant] };
    s.engineSound ∧ step s = .next (after s (step s)) :=
  ⟨⟨by decide +kernel, by decide +kernel, by decide +kernel, by decide +kernel, by decide +kernel⟩, rfl⟩

/-- A hold episode in progress. -/
theorem witness_HoldEpisodeStaysSound :
    let s := { heldBack with
      transit := { pass.transit with upstream := some readA, holdTimer := some 65536 }, pending := [.holdExpiry] };
    s.holdSound ∧ step s = .next (after s (step s)) :=
  ⟨by unfold State.holdSound; decide +kernel, rfl⟩

end Sys2Proof.Tests
end

section
/-! SUPPORT. What one step can be, said once: every command but POR/RSTN and RESET_END is one event of the part, and a
property that each event, a due apply and a tick keep is kept by every step. -/

namespace Sys2Proof.Machine

-- One theorem at a time: each would otherwise hold a thread of its own.
set_option Elab.async false

/-! ## The event of a command -/

/-- What a command does at the part once it is taken as an event; POR/RSTN and RESET_END are no events (R183). -/
def Instr.effect : Instr → State → State
  | .requestPresented r, s => s.presentRequest r
  | .take, s => s.takePresented
  | .holdExpiry, s => s.whenDue s.holdLimitReached State.expireHold
  | .grant, s => s.arbitrate
  | .dPortTake, s => s.takeDownstream
  | .dPortResponse r, s => s.takeResponse r
  | .overdueExpiry initiator tag age, s => s.expireAt ⟨initiator, tag⟩ age
  | .fullReset f, s => s.doneFrame f 1 State.startQuiesce
  | .quiesceComplete, s => s.whenDue s.quiesceDone fun t => t.fullResetEffect false
  | .quiesceAbandon, s => s.whenDue s.abandonDue fun t => t.abandonTable.fullResetEffect true
  | .stageTimeout, s => s.whenDue s.stageTimedOut State.timeOutStage
  | .triginEdge l, s => s.triginRise l
  | .trigoutPulseEnd, s => s.whenDue s.trigoutEnds State.endTrigout
  | .readActive f index, s => s.readFrame f (s.config.active.readWord index.toNat)
  | .readStaged f index, s => s.readFrame f (s.config.staged.readWord index.toNat)
  | .writeStaged f index data, s => s.frame f wordFrameBytes fun s => s.writeStagedWord index data
  | .readStatus f index, s => s.statusFrame f index
  | .rawTimeSnapshot f, s => s.statusFrame f rawTimeIndex
  | .apply f, s => s.frame f 1 State.applyCommand
  | .applyTakesEffect, s => s.takeDueApply
  | .arm f, s => s.frame f 1 State.armUnit
  | .disarm f, s => s.doneFrame f 1 State.disarmUnit
  | .force f, s => s.frame f 1 fun s => s.forceUnit .forcePort
  | .alignOnce f, s => s.doneFrame f 1 State.armOnce
  | .clearCounters f, s => s.doneFrame f 1 State.clearCounters
  | .ackConditions f mask, s => s.doneFrame f wordFrameBytes fun s => s.ackSticky mask
  | .writeAlertEnable f mask, s => s.doneFrame f wordFrameBytes fun s => s.setAlertEnable mask
  | .readRecord f offset leftAfter, s => s.recordFrame f offset leftAfter
  | .discardHead f, s => s.frame f 1 State.discardHead
  | .spillResume f, s => s.frame f 1 State.spillResume
  | .spillSkip f, s => s.frame f 1 State.spillSkip
  | .captureReset f, s => s.doneFrame f 1 State.captureReset
  | .syncPulse l, s => s.syncinRise l
  | .lossWatchExpiry, s => s.whenDue s.lossDue State.loseSync
  | .unknownCommandByte f _, s => s.frame f 1 fun s => (s, .refused)
  | .porRstn, s => s
  | .resetEnd, s => s

/-- A command that is no reset is one event of the part, but for a request presented while it is held. -/
theorem exec_eq_onEvent {s : State} {c : Instr} (hp : c ≠ .porRstn) (hr : c ≠ .resetEnd)
    (hq : s.held = true → ∀ r, c ≠ .requestPresented r) : exec c s = onEvent s (Instr.effect c) := by
  cases c with
  | porRstn => exact absurd rfl hp
  | resetEnd => exact absurd rfl hr
  | requestPresented r => exact if_neg fun h => hq h r rfl
  | _ => rfl

/-- While the part is not held, such a command is its effect after a due apply (R154). -/
theorem exec_eq_effect {s : State} (h : s.held = false) {c : Instr} (hp : c ≠ .porRstn) (hr : c ≠ .resetEnd) :
    exec c s = .next (Instr.effect c s.beginEvent.takeDueApply) := by
  rw [exec_eq_onEvent hp hr (by simp [h]), onEvent, if_neg (by simp [h])]

/-- While the part is held, such a command changes nothing but the presented request (R183). -/
theorem exec_held {s : State} (h : s.held = true) {c : Instr} (hp : c ≠ .porRstn) (hr : c ≠ .resetEnd) :
    exec c s = .next s ∨ ∃ r, exec c s = .next (s.presentRequest r) := by
  by_cases hq : ∃ r, c = .requestPresented r
  · obtain ⟨r, rfl⟩ := hq
    exact .inr ⟨r, if_pos h⟩
  · exact .inl ((exec_eq_onEvent hp hr fun _ r hc => hq ⟨r, hc⟩).trans (onEvent_held h _))

/-- While the part runs, a command that is no reset is its effect on the state whose response channel is empty. -/
theorem exec_running {s : State} (h : s.running) {c : Instr} (hp : c ≠ .porRstn) (hr : c ≠ .resetEnd) :
    exec c s = .next (Instr.effect c s.beginEvent) := by
  have hd : s.beginEvent.applyDue = false := h.2
  rw [exec_eq_effect h.1 hp hr, State.takeDueApply_of_not_due hd]

/-- The response channel of a new event is empty. -/
@[simp] theorem State.beginEvent_upstream (s : State) : s.beginEvent.outputs.upstream = [] := rfl

/-! ## Properties that every step keeps -/

/-- A property that every part of a step keeps: the queue and the free choices are none of its business, and each event,
the apply before it, a tick and the resets keep it. -/
structure KeptByEvents (P : State → Prop) : Prop where
  bookkeeping : ∀ s pending freeIndex, P s → P { s with pending := pending, freeIndex := freeIndex }
  beginEvent : ∀ s : State, P s → P s.beginEvent
  takeEffect : ∀ s : State, P s → P s.takeEffect
  tick : ∀ s : State, P s → P s.tick
  powerOn : ∀ s : State, P s → P s.powerOn
  endReset : ∀ s : State, P s → P s.endReset
  effect : ∀ (c : Instr) (s : State), P s → P (Instr.effect c s)

namespace KeptByEvents

variable {P : State → Prop}

theorem takeDueApply (hP : KeptByEvents P) {s : State} (h : P s) : P s.takeDueApply := by
  unfold State.takeDueApply
  split
  · exact hP.takeEffect s h
  · exact h

theorem exec (hP : KeptByEvents P) {c : Instr} {s t : State} (h : P s) (ht : exec c s = .next t) : P t := by
  by_cases hp : c = .porRstn
  · subst hp
    cases ht
    exact hP.powerOn s h
  by_cases hr : c = .resetEnd
  · subst hr
    cases ht
    unfold State.whenDue
    split
    · exact hP.endReset s h
    · exact h
  by_cases hh : s.held = true
  · rcases exec_held hh hp hr with hs | ⟨r, hs⟩ <;> rw [hs] at ht <;> cases ht
    · exact h
    · exact hP.effect (.requestPresented r) s h
  · rw [exec_eq_effect (by simpa using hh) hp hr] at ht
    cases ht
    exact hP.effect c _ (hP.takeDueApply (hP.beginEvent s h))

/-- A property that every part of a step keeps is kept by the step. -/
theorem step (hP : KeptByEvents P) {s t : State} (h : P s) (ht : step s = .next t) : P t := by
  unfold Machine.step at ht
  split at ht
  · unfold State.idleStep at ht
    split at ht
    · cases ht
      exact h
    · split at ht
      · exact hP.exec (hP.bookkeeping s s.pending _ h) ht
      · cases ht
        exact hP.tick s h
  · rename_i rest _
    exact hP.exec (hP.bookkeeping s rest s.freeIndex h) ht

end KeptByEvents

/-- A frame keeps what its command's effect and an answer keep. -/
theorem State.frame_kept {P : State → Prop} {s : State} (f : Frame) (need : Nat) {act : State → State × Result}
    (hempty : P s → P s.emptyFrame) (hanswer : ∀ t : State, P t → ∀ r, P (t.answer f [] r)) (hact : P s → P (act s).1)
    (h : P s) : P (s.frame f need act) := by
  unfold State.frame
  split
  · exact hempty h
  · split
    · exact hanswer s h _
    · split
      · exact hanswer s h _
      · exact hanswer _ (hact h) _

/-- An event commanded while it is not due keeps everything. -/
theorem State.whenDue_kept {P : State → Prop} {s : State} {due : Bool} {k : State → State}
    (hk : due = true → P (k s)) (h : P s) : P (s.whenDue due k) := by
  unfold State.whenDue
  split
  · exact hk ‹_›
  · exact h

end Sys2Proof.Machine
end

section
/-! SUPPORT. What the spill engine's answers, the captures' commands and the time base leave alone: the traffic, or with the
clock's own fields the channels, the queues and the table. -/

namespace Sys2Proof.Machine

-- One theorem at a time: each would otherwise hold a thread of its own.
set_option Elab.async false

/-! ## The spill engine's answers (R119–R122, R130, R131) -/

theorem State.startInit_keeps (s : State) : s.KeepsTraffic s.startInit := s.beginAttempt_keeps _ _
theorem State.setProducer_keeps (s : State) (p : Nat) (w : Word) : s.KeepsTraffic (s.setProducer p w) := by
  constructor <;> rfl
theorem State.freeTag_keeps (s : State) (t : Nat) : s.KeepsTraffic (s.freeTag t) := by constructor <;> rfl

theorem State.failAttempt_keeps (s : State) (c : FaultCause) : s.KeepsTraffic (s.failAttempt c) :=
  (s.endAttempt_keeps _).trans ((State.setHead_keeps _ _).trans (State.raise_keeps _ _))

theorem State.bodyAcknowledged_keeps (s : State) (a : Attempt) : s.KeepsTraffic (s.bodyAcknowledged a) := by
  unfold State.bodyAcknowledged
  dsimp only
  split
  · split
    · exact (s.restEngine_keeps _).trans (State.takeHead_keeps _)
    · exact s.beginAttempt_keeps _ _
    · exact s.beginAttempt_keeps _ _
  · constructor <;> rfl

theorem State.recordPublished_keeps (s : State) (p : Nat) (w : Word) : s.KeepsTraffic (s.recordPublished p w) :=
  (s.setProducer_keeps p w).trans <| (State.removeHead_keeps _).trans <| (State.count_keeps _ _).trans <|
    (State.restEngine_keeps _ _).trans (State.takeHead_keeps _)

theorem State.loneWrapPublished_keeps (s : State) (p : Nat) (w : Word) : s.KeepsTraffic (s.loneWrapPublished p w) :=
  (s.setProducer_keeps p w).trans <| (State.restEngine_keeps _ _).trans (State.placeHead_keeps _)

theorem State.currentAnswered_keeps (s : State) (a : Attempt) (role : WriteRole) (status : Status) :
    s.KeepsTraffic (s.currentAnswered a role status) := by
  unfold State.currentAnswered
  split
  · exact s.failAttempt_keeps _
  · exact s.bodyAcknowledged_keeps a
  · split
    · exact s.loneWrapPublished_keeps _ _
    · exact s.recordPublished_keeps _ _
    · exact s.recordPublished_keeps _ _

theorem State.staleAnswered_keeps (s : State) (role : WriteRole) (status : Status) :
    s.KeepsTraffic (s.staleAnswered role status) := by
  unfold State.staleAnswered
  split
  · exact .rfl' _
  · split
    · exact (s.setProducer_keeps _ _).trans (State.takeHead_keeps _)
    · exact s.takeHead_keeps

/-- Whatever a response under initiator 15 leads to, the traffic stays as it was. -/
theorem State.spillResponse_keeps (s : State) (tag : Tag) (status : Status) :
    s.KeepsTraffic (s.spillResponse tag status).1 := by
  unfold State.spillResponse
  split
  · split
    · dsimp only
      split
      · exact (s.freeTag_keeps _).trans (State.staleAnswered_keeps _ _ _)
      · split
        · exact (s.freeTag_keeps _).trans (State.currentAnswered_keeps _ _ _ _)
        · exact s.freeTag_keeps _
    · exact .rfl' _
  · exact s.freeTag_keeps _
  · exact .rfl' _
  · exact .rfl' _

/-- What SPILL_RESUME can do (R124). -/
theorem State.spillResume_cases (s : State) :
    s.spillResume.1 = s.startInit ∨ s.spillResume.1 = s.placeHead ∨ s.spillResume.1 = s := by
  unfold State.spillResume
  split <;> simp

theorem State.spillResume_keeps (s : State) : s.KeepsTraffic s.spillResume.1 := by
  rcases s.spillResume_cases with h | h | h <;> rw [h]
  · exact s.startInit_keeps
  · exact s.placeHead_keeps
  · exact .rfl' _

/-- The head skipped, its record counted and the next one taken (R125). -/
def State.headSkipped (s : State) : State := (((s.removeHead).count .skipped).restEngine .idle).takeHead

/-- What SPILL_SKIP can do (R125). -/
theorem State.spillSkip_cases (s : State) : s.spillSkip.1 = s.headSkipped ∨ s.spillSkip.1 = s := by
  unfold State.spillSkip State.headSkipped
  split <;> simp

theorem State.spillSkip_keeps (s : State) : s.KeepsTraffic s.spillSkip.1 := by
  rcases s.spillSkip_cases with h | h <;> rw [h]
  · exact s.removeHead_keeps.trans <| (State.count_keeps _ _).trans <| (State.restEngine_keeps _ _).trans
      (State.takeHead_keeps _)
  · exact .rfl' _

theorem State.discardHead_keeps (s : State) : s.KeepsTraffic s.discardHead.1 := by
  unfold State.discardHead
  split
  · exact s.removeHead_keeps.trans (State.count_keeps _ _)
  · exact .rfl' _

/-! ## Captures and edges -/

/-- What CAPTURE_RESET can do at the engine (R131). -/
theorem State.spillCaptureReset_cases (s : State) :
    s.spillCaptureReset = s.endAttempt .idle ∨ s.spillCaptureReset = s := by
  unfold State.spillCaptureReset
  split <;> simp

theorem State.spillCaptureReset_keeps (s : State) : s.KeepsTraffic s.spillCaptureReset := by
  rcases s.spillCaptureReset_cases with h | h <;> rw [h]
  · exact s.endAttempt_keeps _
  · exact .rfl' _

/-- The capture side emptied, before the engine and hold follow (R164). -/
def State.captureEmptied (s : State) : State :=
  { s with
    observer := { s.observer with ring := [] },
    store := { RecordStore.reset with nextNumber := s.store.nextNumber },
    trigger := { s.trigger with state := .disarmed, trigout := none } }

theorem State.captureReset_eq (s : State) : s.captureReset = s.captureEmptied.spillCaptureReset.followHold := rfl

theorem State.captureReset_keeps (s : State) : s.KeepsTraffic s.captureReset :=
  .trans (t := s.captureEmptied) (by constructor <;> rfl)
    ((State.spillCaptureReset_keeps _).trans (State.followHold_keeps _))

theorem State.triginRise_keeps (s : State) (l : LineRise) : s.KeepsTraffic (s.triginRise l) := by
  unfold State.triginRise
  dsimp only
  split
  · refine .trans ?_ (State.triginEdgeSeen_keeps _)
    constructor <;> rfl
  · constructor <;> rfl

/-! ## The time base -/

theorem State.KeepsChannels.rfl' (s : State) : s.KeepsChannels s := (State.KeepsTraffic.rfl' s).toChannels

theorem State.slip_keeps (s : State) : s.KeepsTraffic s.slip :=
  (s.raise_keeps _).trans ((State.count_keeps _ _).trans (State.observe_keeps _ _ _))

/-- A realignment before its MARK(EPOCH) is asked for (R141). -/
def State.realigned (s : State) (d : Int) : State :=
  ({ s with clock := { s.clock with offset := s.clock.offset - BitVec.ofInt 48 d,
                                    epoch := s.clock.epoch + 1 } }).tellEpochChange

theorem State.realign_keeps (s : State) (d : Int) : s.KeepsChannels (s.realign d) :=
  .trans (t := s.realigned d) (by constructor <;> rfl) (State.observe_keeps _ _ _).toChannels

theorem State.recordPulse_keeps (s : State) (d : Int) : s.KeepsChannels (s.recordPulse d) := by
  constructor <;> rfl

theorem State.endPulse_keeps (s : State) : s.KeepsChannels s.endPulse := by constructor <;> rfl

theorem State.pulse_keeps (s : State) : s.KeepsChannels s.pulse := by
  have slips : ∀ (t : State) (c : Bool), t.KeepsChannels (if c then t.slip else t) := fun t c => by
    split
    · exact t.slip_keeps.toChannels
    · exact .rfl' _
  have realigns : ∀ (t : State) (c : Bool) (d : Int), t.KeepsChannels (if c then t.realign d else t) := fun t c d => by
    split
    · exact t.realign_keeps d
    · exact .rfl' _
  exact (s.recordPulse_keeps _).trans <| (slips _ _).trans <| (realigns _ _ _).trans (State.endPulse_keeps _)

theorem State.syncinRise_keeps (s : State) (l : LineRise) : s.KeepsChannels (s.syncinRise l) := by
  unfold State.syncinRise
  dsimp only
  split
  · refine .trans ?_ (State.pulse_keeps _)
    constructor <;> rfl
  · constructor <;> rfl

theorem State.loseSync_keeps (s : State) : s.KeepsChannels s.loseSync := by
  refine .trans ?_ (State.observe_keeps _ _ _).toChannels
  constructor <;> rfl

/-! ## The configuration and the orphans -/

theorem State.applyCommand_keeps (s : State) : s.KeepsChannels s.applyCommand.1 := by
  unfold State.applyCommand State.requestApply
  split
  · exact .rfl' _
  · split
    · constructor <;> rfl
    · dsimp only
      split
      · refine .trans ?_ (State.takeEffect_keeps _)
        constructor <;> rfl
      · constructor <;> rfl

theorem State.writeStagedWord_keeps (s : State) (i : BitVec 16) (w : Word) :
    s.KeepsChannels (s.writeStagedWord i w).1 := by
  unfold State.writeStagedWord
  split
  · exact .rfl' _
  · split
    · exact .rfl' _
    · constructor <;> rfl

theorem State.orphanResponse_keeps (s : State) (r : Response) : s.KeepsTraffic (s.orphanResponse r) :=
  (s.raise_keeps _).trans ((State.count_keeps _ _).trans (State.observe_keeps _ _ _))

theorem State.presentRequest_table (s : State) (r : Request) :
    (s.presentRequest r).transit.table = s.transit.table ∧ (s.presentRequest r).transit.takes = s.transit.takes := by
  unfold State.presentRequest
  split
  · exact ⟨rfl, rfl⟩
  · dsimp only
    split
    · exact ⟨(State.followHold_keeps _).table, (State.followHold_keeps _).takes⟩
    · exact ⟨(State.followHold_keeps _).table, (State.followHold_keeps _).takes⟩

/-- A TAKE is due where a request is presented and no obstacle of R3 is left. -/
theorem State.canTake_iff (s : State) : s.canTake = true ↔
    s.transit.upstream.isSome = true ∧ s.transit.table.length < 48 ∧ s.holdInForce = false ∧ s.quiescing = false := by
  simp only [State.canTake, Bool.and_eq_true, decide_eq_true_eq, Bool.not_eq_true', and_assoc]
  rfl

end Sys2Proof.Machine
end

section
/-! SUPPORT. The answer order: what a release sends and leaves of its own key and of the others, and when a key has nothing
left to send or free. -/

namespace Sys2Proof.Machine

-- One theorem at a time: each would otherwise hold a thread of its own.
set_option Elab.async false

/-! ## A release, case by case -/

theorem releaseKey_other {k : Key} {e : Entry} (h : e.key ≠ k) (es : List Entry) :
    releaseKey k (e :: es) = (e :: (releaseKey k es).1, (releaseKey k es).2) := by
  simp [releaseKey, h]

theorem releaseKey_pending {k : Key} {e : Entry} (h : e.key = k) (ha : e.answer = .pending) (es : List Entry) :
    releaseKey k (e :: es) = (e :: es, []) := by
  simp [releaseKey, h, ha]

theorem releaseKey_cons_ready {k : Key} {e : Entry} {c : Content} (h : e.key = k) (ha : e.answer = .ready c)
    (es : List Entry) : releaseKey k (e :: es) =
      (keepUnfreed { e with answer := .sent c } (releaseKey k es).1, e.response c :: (releaseKey k es).2) := by
  simp [releaseKey, h, ha]

theorem releaseKey_cons_sent {k : Key} {e : Entry} {c : Content} (h : e.key = k) (ha : e.answer = .sent c)
    (es : List Entry) :
    releaseKey k (e :: es) = (keepUnfreed e (releaseKey k es).1, (releaseKey k es).2) := by
  simp [releaseKey, h, ha]

/-- An answered entry is freed exactly where nothing further is expected (R9). -/
theorem keepUnfreed_sent {e : Entry} {c : Content} (ha : e.answer = .sent c) (t : List Entry) :
    keepUnfreed e t = if e.path = .none then t else e :: t := by
  unfold keepUnfreed
  rw [ha]
  cases e.path <;> simp

/-- The response an entry's answer is, where it waits to be sent (R18). -/
def Entry.readyResponse (e : Entry) : Option Response :=
  match e.answer with
  | .ready c => some (e.response c)
  | .pending => none
  | .sent _ => none

/-- What a release leaves of an entry it reaches: SENT, and gone where its path is NONE (R9, R18). -/
def Entry.afterSending (e : Entry) : Option Entry :=
  if e.path = .none then none
  else match e.answer with
    | .ready c => some { e with answer := .sent c }
    | .pending => some e
    | .sent _ => some e

/-- The entries a release reaches: a key's own, up to its first PENDING one (R18). -/
def releasedRun (k : Key) (t : List Entry) : List Entry :=
  (t.filter fun e => e.key == k).takeWhile fun e => e.answer != .pending

theorem releasedRun_other {k : Key} {e : Entry} (h : e.key ≠ k) (es : List Entry) :
    releasedRun k (e :: es) = releasedRun k es := by
  simp [releasedRun, h]

theorem releasedRun_pending {k : Key} {e : Entry} (h : e.key = k) (ha : e.answer = .pending) (es : List Entry) :
    releasedRun k (e :: es) = [] := by
  simp [releasedRun, h, ha]

theorem releasedRun_answered {k : Key} {e : Entry} (h : e.key = k) (ha : e.answer ≠ .pending) (es : List Entry) :
    releasedRun k (e :: es) = e :: releasedRun k es := by
  simp [releasedRun, h, ha]

/-- The READY answers of the run go out, in take order. -/
theorem releaseKey_responses (k : Key) :
    ∀ t : List Entry, (releaseKey k t).2 = (releasedRun k t).filterMap Entry.readyResponse
  | [] => rfl
  | e :: es => by
    have ih := releaseKey_responses k es
    by_cases hk : e.key = k
    · cases ha : e.answer with
      | pending => simp [releaseKey_pending hk ha, releasedRun_pending hk ha]
      | ready c =>
        rw [releaseKey_cons_ready hk ha, releasedRun_answered hk (by simp [ha]), ih]
        simp [Entry.readyResponse, ha]
      | sent c =>
        rw [releaseKey_cons_sent hk ha, releasedRun_answered hk (by simp [ha]), ih]
        simp [Entry.readyResponse, ha]
    · rw [releaseKey_other hk, releasedRun_other hk, ih]

/-- Of the key's own entries, the run is SENT or freed, and the first PENDING one and those behind it stay. -/
theorem releaseKey_own (k : Key) : ∀ t : List Entry,
    ((releaseKey k t).1.filter fun e => e.key == k) =
      (releasedRun k t).filterMap Entry.afterSending ++
        (t.filter fun e => e.key == k).drop (releasedRun k t).length
  | [] => rfl
  | e :: es => by
    have ih := releaseKey_own k es
    by_cases hk : e.key = k
    · cases ha : e.answer with
      | pending => simp [releaseKey_pending hk ha, releasedRun_pending hk ha]
      | ready c =>
        rw [releaseKey_cons_ready hk ha, releasedRun_answered hk (by simp [ha]), keepUnfreed_sent rfl]
        by_cases hp : e.path = .none <;> simp [Entry.afterSending, ha, hp, hk, ih]
      | sent c =>
        rw [releaseKey_cons_sent hk ha, releasedRun_answered hk (by simp [ha]), keepUnfreed_sent ha]
        by_cases hp : e.path = .none <;> simp [Entry.afterSending, ha, hp, hk, ih]
    · rw [releaseKey_other hk, releasedRun_other hk]
      simp [hk, ih]

/-- No entry of another key changes. -/
theorem releaseKey_others (k : Key) : ∀ t : List Entry,
    ((releaseKey k t).1.filter fun e => e.key != k) = t.filter fun e => e.key != k
  | [] => rfl
  | e :: es => by
    have ih := releaseKey_others k es
    by_cases hk : e.key = k
    · cases ha : e.answer with
      | pending => rw [releaseKey_pending hk ha]
      | ready c =>
        rw [releaseKey_cons_ready hk ha, keepUnfreed_sent rfl]
        split <;> simp [hk, ih]
      | sent c =>
        rw [releaseKey_cons_sent hk ha, keepUnfreed_sent ha]
        split <;> simp [hk, ih]
    · simp [releaseKey_other hk, hk, ih]

/-- The entries that stay keep their order. -/
theorem releaseKey_ids (k : Key) : ∀ t : List Entry,
    ((releaseKey k t).1.map fun e => e.id).Sublist (t.map fun e => e.id)
  | [] => .slnil
  | e :: es => by
    have ih := releaseKey_ids k es
    by_cases hk : e.key = k
    · cases ha : e.answer with
      | pending => rw [releaseKey_pending hk ha]
      | ready c =>
        rw [releaseKey_cons_ready hk ha, keepUnfreed_sent rfl]
        split
        · exact ih.cons _
        · exact ih.cons_cons _
      | sent c =>
        rw [releaseKey_cons_sent hk ha, keepUnfreed_sent ha]
        split
        · exact ih.cons _
        · exact ih.cons_cons _
    · rw [releaseKey_other hk]
      exact ih.cons_cons _

/-! ## When nothing is left to do -/

/-- Of a key's entries up to its first PENDING one, each is SENT and still has a path: none could be sent or freed. -/
def settled (k : Key) : List Entry → Prop
  | [] => True
  | e :: es =>
    if e.key = k then
      match e.answer with
      | .pending => True
      | .ready _ => False
      | .sent _ => e.path ≠ .none ∧ settled k es
    else settled k es

theorem settled_other {k : Key} {e : Entry} (h : e.key ≠ k) (es : List Entry) :
    settled k (e :: es) ↔ settled k es := by
  simp [settled, h]

theorem settled_pending {k : Key} {e : Entry} (h : e.key = k) (ha : e.answer = .pending) (es : List Entry) :
    settled k (e :: es) := by
  simp [settled, h, ha]

theorem settled_sent {k : Key} {e : Entry} {c : Content} (h : e.key = k) (ha : e.answer = .sent c)
    (es : List Entry) : settled k (e :: es) ↔ e.path ≠ .none ∧ settled k es := by
  simp [settled, h, ha]

theorem not_settled_ready {k : Key} {e : Entry} {c : Content} (h : e.key = k) (ha : e.answer = .ready c)
    (es : List Entry) : ¬settled k (e :: es) := by
  simp [settled, h, ha]

/-- A key is settled exactly when a release of it changes nothing and sends nothing. -/
theorem releaseKey_eq_iff_settled (k : Key) : ∀ t : List Entry, releaseKey k t = (t, []) ↔ settled k t
  | [] => by simp [releaseKey, settled]
  | e :: es => by
    have ih := releaseKey_eq_iff_settled k es
    by_cases hk : e.key = k
    · cases ha : e.answer with
      | pending => simp [releaseKey_pending hk ha, settled_pending hk ha]
      | ready c => simp [releaseKey_cons_ready hk ha, not_settled_ready hk ha]
      | sent c =>
        rw [releaseKey_cons_sent hk ha, settled_sent hk ha, keepUnfreed_sent ha, ← ih, Prod.ext_iff, Prod.ext_iff]
        split
        · rename_i hp
          have hne : (releaseKey k es).1 ≠ e :: es := fun h => by
            have := congrArg List.length h
            have := releaseKey_length_le k es
            simp at *
            omega
          simp [hp, hne]
        · simp [*]
    · simp [releaseKey_other hk, settled_other hk, ← ih, Prod.ext_iff]

/-- After its release a key is settled. -/
theorem settled_releaseKey (k : Key) : ∀ t : List Entry, settled k (releaseKey k t).1
  | [] => trivial
  | e :: es => by
    have ih := settled_releaseKey k es
    by_cases hk : e.key = k
    · cases ha : e.answer with
      | pending =>
        rw [releaseKey_pending hk ha]
        exact settled_pending hk ha es
      | ready c =>
        rw [releaseKey_cons_ready hk ha, keepUnfreed_sent rfl]
        split
        · exact ih
        · exact (settled_sent (e := { e with answer := .sent c }) hk rfl _).2 ⟨‹_›, ih⟩
      | sent c =>
        rw [releaseKey_cons_sent hk ha, keepUnfreed_sent ha]
        split
        · exact ih
        · exact (settled_sent hk ha _).2 ⟨‹_›, ih⟩
    · rw [releaseKey_other hk]
      exact (settled_other hk _).2 ih

/-- Whether a key is settled depends on its own entries alone. -/
theorem settled_filter (k : Key) : ∀ t : List Entry, settled k (t.filter fun e => e.key == k) ↔ settled k t
  | [] => .rfl
  | e :: es => by
    have ih := settled_filter k es
    by_cases hk : e.key = k
    · cases ha : e.answer with
      | pending => simp [hk, settled_pending hk ha]
      | ready c => simp [hk, not_settled_ready hk ha]
      | sent c => simp [hk, settled_sent hk ha, ih]
    · simp [hk, settled_other hk, ih]

/-- A key without an entry is settled. -/
theorem settled_absent {k : Key} {t : List Entry} (h : ∀ e ∈ t, e.key ≠ k) : settled k t := by
  rw [← releaseKey_eq_iff_settled, releaseKey_absent k t h]

/-- The release of one key leaves every other as it was. -/
theorem settled_releaseKey_other {j k : Key} (h : j ≠ k) (t : List Entry) :
    settled j (releaseKey k t).1 ↔ settled j t := by
  have own : ∀ u : List Entry, (u.filter fun e => e.key == j) =
      (u.filter fun e => e.key != k).filter fun e => e.key == j := fun u => by
    rw [List.filter_filter]
    refine List.filter_congr fun e _ => ?_
    by_cases he : e.key = j <;> simp [he, h]
  rw [← settled_filter, ← settled_filter j t, own, own t, releaseKey_others]

/-- A PENDING entry at the tail, or one of another key, leaves a settled key settled. -/
theorem settled_append {k : Key} {e : Entry} (he : e.key = k → e.answer = .pending) :
    ∀ {t : List Entry}, settled k t → settled k (t ++ [e])
  | [], _ => by
    by_cases hk : e.key = k
    · exact settled_pending hk (he hk) []
    · exact (settled_other hk []).2 trivial
  | x :: xs, h => by
    by_cases hk : x.key = k
    · cases ha : x.answer with
      | pending => exact settled_pending hk ha _
      | ready c => exact absurd h (not_settled_ready hk ha xs)
      | sent c =>
        obtain ⟨hp, hs⟩ := (settled_sent hk ha xs).1 h
        exact (settled_sent hk ha _).2 ⟨hp, settled_append he hs⟩
    · exact (settled_other hk _).2 (settled_append he ((settled_other hk xs).1 h))

/-- A change of entries that keeps each one's key, and of the key's own entries the answer and whether a path is left, leaves
a settled key settled. -/
theorem settled_map {k : Key} {f : Entry → Entry} : ∀ {t : List Entry},
    (∀ e ∈ t, (f e).key = e.key ∧
      (e.key = k → (f e).answer = e.answer ∧ ((f e).path = .none → e.path = .none))) →
    settled k t → settled k (t.map f)
  | [], _, _ => trivial
  | e :: es, hf, h => by
    obtain ⟨hkey, hown⟩ := hf e (by simp)
    have tail := fun hs => settled_map (t := es) (fun x hx => hf x (by simp [hx])) hs
    by_cases hk : e.key = k
    · obtain ⟨hans, hpath⟩ := hown hk
      cases ha : e.answer with
      | pending => exact settled_pending (hkey.trans hk) (hans.trans ha) _
      | ready c => exact absurd h (not_settled_ready hk ha es)
      | sent c =>
        obtain ⟨hp, hs⟩ := (settled_sent hk ha es).1 h
        exact (settled_sent (hkey.trans hk) (hans.trans ha) _).2 ⟨fun hn => hp (hpath hn), tail hs⟩
    · exact (settled_other (fun hh => hk (hkey.symm.trans hh)) _).2 (tail ((settled_other hk es).1 h))

/-- Settles O14: what is sent, what is left of the key's own entries, the other keys' entries, and the order, each by
induction on the table. -/
theorem answersLeaveInTakeOrder : Obligations.AnswersLeaveInTakeOrder := fun k t =>
  ⟨releaseKey_responses k t, releaseKey_own k t, releaseKey_others k t, releaseKey_ids k t⟩

end Sys2Proof.Machine
end

section
/-! SUPPORT. The transit table's invariant: which changes of the table keep it, and that every event makes only such. -/

namespace Sys2Proof.Machine

-- One theorem at a time: each would otherwise hold a thread of its own.
set_option Elab.async false

/-- The table is sound in the terms of `settled`: at most 48 entries, numbered in take order, every key settled. -/
theorem State.tableSound_iff (s : State) : s.tableSound ↔
    s.transit.table.length ≤ 48 ∧ (s.transit.table.map (·.id)).Pairwise (· < ·) ∧
      (∀ e ∈ s.transit.table, e.id < s.transit.takes) ∧ ∀ k, settled k s.transit.table := by
  unfold State.tableSound
  simp only [releaseKey_eq_iff_settled]
  refine and_congr_right fun _ => and_congr_right fun _ => and_congr_right fun _ => ⟨fun h k => ?_, fun h e _ => h _⟩
  by_cases hk : ∃ e ∈ s.transit.table, e.key = k
  · obtain ⟨e, he, rfl⟩ := hk
    exact h e he
  · exact settled_absent fun e he hek => hk ⟨e, he, hek⟩

/-! ## Changes that keep the table sound -/

/-- The table and the number of the next take are the same. -/
abbrev State.SameTable (s t : State) : Prop :=
  t.transit.table = s.transit.table ∧ t.transit.takes = s.transit.takes

theorem State.KeepsChannels.sameTable {s t : State} (h : s.KeepsChannels t) : s.SameTable t := ⟨h.table, h.takes⟩

theorem State.KeepsTraffic.sameTable {s t : State} (h : s.KeepsTraffic t) : s.SameTable t := ⟨h.table, h.takes⟩

theorem State.tableSound_of_sameTable {s t : State} (h : s.SameTable t) (hs : s.tableSound) : t.tableSound := by
  obtain ⟨ht, hn⟩ := h
  unfold State.tableSound at hs ⊢
  rwa [ht, hn]

theorem State.tableSound_of_empty {s : State} (h : s.transit.table = []) : s.tableSound := by
  simp [State.tableSound, h]

/-- In a sound table an entry's number names it alone. -/
theorem State.tableSound.eq_of_id {s : State} (h : s.tableSound) {a b : Entry} (ha : a ∈ s.transit.table)
    (hb : b ∈ s.transit.table) (hid : a.id = b.id) : a = b := by
  obtain ⟨-, hord, -⟩ := h
  exact List.inj_on_of_nodup_map (hord.imp Nat.ne_of_lt) ha hb hid

theorem map_updateEntry_id {f : Entry → Entry} (hf : ∀ e, (f e).id = e.id) (id : Nat) (t : List Entry) :
    (t.map fun e => if e.id = id then f e else e).map (·.id) = t.map (·.id) := by
  rw [List.map_map]
  refine List.map_congr_left fun e _ => ?_
  by_cases h : e.id = id <;> simp [h, hf]

/-- A change of one entry that keeps its number, key and answer and frees no path keeps the table sound. -/
theorem State.tableSound_updateEntry {s : State} {id : Nat} {f : Entry → Entry} (hid : ∀ e, (f e).id = e.id)
    (hf : ∀ e, (f e).key = e.key ∧ (f e).answer = e.answer ∧ ((f e).path = .none → e.path = .none))
    (hs : s.tableSound) : (s.updateEntry id f).tableSound := by
  rw [State.tableSound_iff] at hs ⊢
  obtain ⟨hlen, hord, hlt, hset⟩ := hs
  refine ⟨by simpa using hlen, by simpa [map_updateEntry_id hid] using hord, fun e he => ?_, fun k => ?_⟩
  · obtain ⟨x, hx, rfl⟩ := List.mem_map.1 he
    have := hlt x hx
    dsimp only [State.updateEntry_transit]
    split
    · rwa [hid]
    · exact this
  · refine settled_map (fun e _ => ?_) (hset k)
    split
    · exact ⟨(hf e).1, fun _ => (hf e).2⟩
    · exact ⟨rfl, fun _ => ⟨rfl, fun h => h⟩⟩

/-- A table in which one key alone may be unsettled is sound once that key's answers are released. -/
theorem State.tableSound_release {s : State} {k : Key} (hlen : s.transit.table.length ≤ 48)
    (hord : (s.transit.table.map (·.id)).Pairwise (· < ·)) (hlt : ∀ e ∈ s.transit.table, e.id < s.transit.takes)
    (hset : ∀ j, j ≠ k → settled j s.transit.table) : (s.release k).tableSound := by
  have hids := releaseKey_ids k s.transit.table
  rw [State.tableSound_iff]
  refine ⟨(releaseKey_length_le k _).trans hlen, hord.sublist hids, fun e he => ?_, fun j => ?_⟩
  · obtain ⟨x, hx, hxe⟩ := List.mem_map.1 (hids.subset (List.mem_map_of_mem he))
    rw [← hxe]
    exact hlt x hx
  · by_cases hj : j = k
    · subst hj
      exact settled_releaseKey j _
    · exact (settled_releaseKey_other hj _).2 (hset j hj)

/-- One entry changed in any way that keeps its number and key, whatever is done beside the table, and its key's answers then
released, keeps the table sound. -/
theorem State.tableSound_answered {s t : State} {e : Entry} {f : Entry → Entry} (hs : s.tableSound)
    (he : e ∈ s.transit.table) (hid : ∀ x, (f x).id = x.id) (hkey : ∀ x, (f x).key = x.key)
    (ht : (s.updateEntry e.id f).SameTable t) : (t.release e.key).tableSound := by
  have only : ∀ x ∈ s.transit.table, x.id = e.id → x = e := fun x hx hxe => hs.eq_of_id hx he hxe
  rw [State.tableSound_iff] at hs
  obtain ⟨hlen, hord, hlt, hset⟩ := hs
  obtain ⟨htab, htak⟩ := ht
  rw [State.updateEntry_transit] at htab htak
  refine State.tableSound_release ?_ ?_ (fun x hx => ?_) fun j hj => ?_
  · rw [htab]
    simpa using hlen
  · rw [htab]
    simpa [map_updateEntry_id hid] using hord
  · rw [htab] at hx
    rw [htak]
    obtain ⟨y, hy, rfl⟩ := List.mem_map.1 hx
    have := hlt y hy
    dsimp only
    split
    · rwa [hid]
    · exact this
  · rw [htab]
    refine settled_map (fun x hx => ?_) (hset j)
    split
    · rename_i hxe
      rw [only x hx hxe]
      exact ⟨hkey e, fun hek => absurd hek.symm hj⟩
    · exact ⟨rfl, fun _ => ⟨rfl, id⟩⟩

/-- A taken request's entry joins the table's tail under a new number. -/
theorem State.tableSound.joined {s : State} (hs : s.tableSound) (hroom : s.transit.table.length < 48) {e : Entry}
    (hid : e.id = s.transit.takes) :
    (s.transit.table ++ [e]).length ≤ 48 ∧ ((s.transit.table ++ [e]).map (·.id)).Pairwise (· < ·) ∧
      ∀ x ∈ s.transit.table ++ [e], x.id < s.transit.takes + 1 := by
  obtain ⟨-, hord, hlt, -⟩ := hs
  refine ⟨by simp; omega, ?_, fun x hx => ?_⟩
  · rw [List.map_append, List.pairwise_append]
    refine ⟨hord, by simp, fun a ha b hb => ?_⟩
    obtain ⟨x, hx, rfl⟩ := List.mem_map.1 ha
    obtain rfl : b = e.id := by simpa using hb
    rw [hid]
    exact hlt x hx
  · rcases List.mem_append.1 hx with hx | hx
    · exact Nat.lt_succ_of_lt (hlt x hx)
    · obtain rfl : x = e := by simpa using hx
      omega

/-! ## The transit unit's events -/

theorem State.takeRequest_tableSound {s : State} (hs : s.tableSound) (hroom : s.transit.table.length < 48)
    (r : Request) : (s.takeRequest r).tableSound := by
  have hset := (s.tableSound_iff.1 hs).2.2.2
  unfold State.takeRequest
  split
  · unfold State.takeDeclined
    dsimp only
    rename_i d _
    have hkeep := (State.observe_keeps ((s.joinTable
      (s.newEntry r (.declined d) .none .notSent (.ready (faultContent r.kind r.beats)) none)).count (declinedCounter d))
      (declinedBody r d) none)
    obtain ⟨hlen, hord, hlt⟩ := hs.joined hroom
      (e := s.newEntry r (.declined d) .none .notSent (.ready (faultContent r.kind r.beats)) none) rfl
    refine State.tableSound_release ?_ ?_ ?_ fun j hj => ?_ <;> rw [hkeep.table]
    · exact hlen
    · exact hord
    · rw [hkeep.takes]
      exact hlt
    · exact settled_append (fun h => absurd h.symm hj) (hset j)
  · rw [State.tableSound_iff]
    obtain ⟨hlen, hord, hlt⟩ := hs.joined hroom
      (e := s.newEntry r .forwarded .queued .waiting .pending (snoopBeat s.config.active r)) rfl
    exact ⟨hlen, hord, hlt, fun k => settled_append (fun _ => rfl) (hset k)⟩

theorem State.takePresented_tableSound {s : State} (hs : s.tableSound) : s.takePresented.tableSound := by
  unfold State.takePresented
  split
  · refine State.whenDue_kept (fun hdue => ?_) hs
    obtain ⟨-, hroom, -⟩ := s.canTake_iff.1 hdue
    exact State.takeRequest_tableSound hs hroom _
  · exact hs

theorem State.grantForward_tableSound {s : State} (hs : s.tableSound) (q : QueuedRequest) (rest : List QueuedRequest)
    (run : Nat) : (s.grantForward q rest run).tableSound :=
  State.tableSound_updateEntry (fun _ => rfl) (fun _ => ⟨rfl, rfl, id⟩) (State.tableSound_of_sameTable ⟨rfl, rfl⟩ hs)

theorem State.arbitrate_tableSound {s : State} (hs : s.tableSound) : s.arbitrate.tableSound := by
  have spill : ∀ c, (s.grantSpillWrite c).tableSound := fun c => State.tableSound_of_sameTable ⟨rfl, rfl⟩ hs
  unfold State.arbitrate
  split
  · exact hs
  · split
    · exact hs
    · exact State.grantForward_tableSound hs _ _ _
    · exact spill _
    · split
      · exact spill _
      · exact State.grantForward_tableSound hs _ _ _

theorem State.takeDownstream_tableSound {s : State} (hs : s.tableSound) : s.takeDownstream.tableSound := by
  unfold State.takeDownstream
  split
  · exact hs
  · dsimp only
    split
    · refine State.tableSound_updateEntry (fun _ => rfl) (fun e => ⟨rfl, rfl, fun hp => ?_⟩)
        (State.tableSound_of_sameTable ⟨rfl, rfl⟩ hs)
      simp only [Entry.takenDownstream] at hp
      split at hp
      · cases hp
      · exact hp
    · exact State.tableSound_of_sameTable ⟨rfl, rfl⟩ hs

theorem State.memoryResponse_tableSound {s : State} (hs : s.tableSound) (r : Response) :
    (s.memoryResponse r).tableSound := by
  unfold State.memoryResponse
  dsimp only
  split
  · exact State.tableSound_of_sameTable (State.orphanResponse_keeps _ r).sameTable
      (State.tableSound_of_sameTable ⟨rfl, rfl⟩ hs)
  · split
    · exact State.tableSound_of_sameTable (s.orphanResponse_keeps r).sameTable hs
    · rename_i e he
      have hmem := List.mem_of_find?_eq_some he
      split
      · exact State.tableSound_answered hs hmem (f := fun e => { e with path := .none }) (fun _ => rfl) (fun _ => rfl)
          (State.observe_keeps _ _ _).sameTable
      · exact State.tableSound_answered hs hmem
          (f := fun e => { e with answer := .ready (e.answerContent r), path := .none }) (fun _ => rfl) (fun _ => rfl)
          (State.observeAndOffer_keeps _ _ _ _ _).sameTable

theorem State.takeResponse_tableSound {s : State} (hs : s.tableSound) (r : Response) :
    (s.takeResponse r).tableSound := by
  unfold State.takeResponse
  split
  · have hm := State.tableSound_of_sameTable (s.spillResponse_keeps r.tag r.status).sameTable hs
    dsimp only
    split
    · exact hm
    · exact State.tableSound_of_sameTable (State.orphanResponse_keeps _ r).sameTable hm
  · exact State.memoryResponse_tableSound hs r

theorem State.expireEntry_tableSound {s : State} (hs : s.tableSound) {e : Entry} (he : e ∈ s.transit.table) :
    (s.expireEntry e).tableSound := by
  unfold State.expireEntry
  split
  · exact State.tableSound_of_sameTable (State.observe_keeps _ _ _).sameTable
      (State.tableSound_of_sameTable ⟨rfl, rfl⟩ (State.tableSound_updateEntry
        (f := fun e => { e with overdueSeen := true }) (fun _ => rfl) (fun _ => ⟨rfl, rfl, id⟩) hs))
  · split
    · exact State.tableSound_answered hs he (f := fun e =>
        { e with answer := .ready (faultContent e.kind e.beats), path := .none, downstream := .notSent }) (fun _ => rfl)
        (fun _ => rfl) (State.observe_keeps _ _ _).sameTable
    · exact State.tableSound_answered hs he (f := fun e =>
        { e with answer := .ready (faultContent e.kind e.beats), path := .cut }) (fun _ => rfl) (fun _ => rfl)
        (State.observe_keeps _ _ _).sameTable
  · exact hs

theorem State.expireAt_tableSound {s : State} (hs : s.tableSound) (k : Key) (age : Nat) :
    (s.expireAt k age).tableSound := by
  unfold State.expireAt
  split
  · rename_i e he
    have hmem := (List.mem_filter.1 (List.mem_of_getElem? he)).1
    exact State.whenDue_kept (fun _ => State.expireEntry_tableSound hs hmem) hs
  · exact hs

/-- A FULL_RESET that takes effect leaves no entry. -/
theorem State.fullResetEffect_table (s : State) (abandoned : Bool) :
    (s.fullResetEffect abandoned).transit.table = [] := by
  unfold State.fullResetEffect
  cases abandoned <;> rfl

theorem State.startQuiesce_tableSound {s : State} (hs : s.tableSound) : s.startQuiesce.tableSound := by
  unfold State.startQuiesce
  dsimp only
  split
  · exact State.tableSound_of_empty (State.fullResetEffect_table _ _)
  · exact State.tableSound_of_sameTable ⟨rfl, rfl⟩ hs

/-! ## Every event -/

/-- A frame keeps the table sound where its command does. -/
theorem State.frame_tableSound {s : State} (hs : s.tableSound) (f : Frame) (need : Nat)
    {act : State → State × Result} (hact : (act s).1.tableSound) : (s.frame f need act).tableSound :=
  State.frame_kept f need (fun h => State.tableSound_of_sameTable ⟨rfl, rfl⟩ h)
    (fun _ h _ => State.tableSound_of_sameTable ⟨rfl, rfl⟩ h) (fun _ => hact) hs

theorem State.doneFrame_tableSound {s : State} (hs : s.tableSound) (f : Frame) (need : Nat) {act : State → State}
    (hact : (act s).tableSound) : (s.doneFrame f need act).tableSound :=
  State.frame_tableSound hs f need hact

/-- A read of a word leaves the table as it was. -/
theorem State.readFrame_sameTable (s : State) (f : Frame) (w : Option Word) : s.SameTable (s.readFrame f w) := by
  unfold State.readFrame
  repeat' split
  all_goals exact ⟨rfl, rfl⟩

theorem State.statusFrame_sameTable (s : State) (f : Frame) (i : BitVec 16) : s.SameTable (s.statusFrame f i) := by
  unfold State.statusFrame
  dsimp only
  repeat' split
  all_goals exact ⟨rfl, rfl⟩

theorem State.recordFrame_sameTable (s : State) (f : Frame) (o : BitVec 16) (k : Option Nat) :
    s.SameTable (s.recordFrame f o k) := by
  unfold State.recordFrame
  repeat' split
  all_goals exact ⟨rfl, rfl⟩

theorem Instr.effect_tableSound (c : Instr) (s : State) (hs : s.tableSound) : (Instr.effect c s).tableSound := by
  have same : ∀ {t : State}, s.SameTable t → t.tableSound := fun h => State.tableSound_of_sameTable h hs
  cases c with
  | requestPresented r => exact same (s.presentRequest_table r)
  | take => exact State.takePresented_tableSound hs
  | holdExpiry => exact State.whenDue_kept (fun _ => same ⟨rfl, rfl⟩) hs
  | grant => exact State.arbitrate_tableSound hs
  | dPortTake => exact State.takeDownstream_tableSound hs
  | dPortResponse r => exact State.takeResponse_tableSound hs r
  | overdueExpiry i t a => exact State.expireAt_tableSound hs ⟨i, t⟩ a
  | fullReset f => exact State.doneFrame_tableSound hs f 1 (State.startQuiesce_tableSound hs)
  | quiesceComplete =>
    exact State.whenDue_kept (fun _ => State.tableSound_of_empty (State.fullResetEffect_table _ _)) (s := s) hs
  | quiesceAbandon =>
    exact State.whenDue_kept (fun _ => State.tableSound_of_empty (State.fullResetEffect_table _ _)) (s := s) hs
  | porRstn => exact hs
  | stageTimeout => exact State.whenDue_kept (fun _ => same ⟨rfl, rfl⟩) hs
  | triginEdge l => exact same (s.triginRise_keeps l).sameTable
  | trigoutPulseEnd => exact State.whenDue_kept (fun _ => same ⟨rfl, rfl⟩) hs
  | readActive f i => exact same (s.readFrame_sameTable f _)
  | readStaged f i => exact same (s.readFrame_sameTable f _)
  | writeStaged f i w => exact State.frame_tableSound hs f _ (same (s.writeStagedWord_keeps i w).sameTable)
  | readStatus f i => exact same (s.statusFrame_sameTable f i)
  | rawTimeSnapshot f => exact same (s.statusFrame_sameTable f _)
  | apply f => exact State.frame_tableSound hs f _ (same s.applyCommand_keeps.sameTable)
  | applyTakesEffect => exact same s.takeDueApply_keeps.sameTable
  | arm f => exact State.frame_tableSound hs f _ (same s.armUnit_keeps.sameTable)
  | disarm f => exact State.doneFrame_tableSound hs f _ (same s.disarmUnit_keeps.sameTable)
  | force f => exact State.frame_tableSound hs f _ (same (s.forceUnit_keeps _).sameTable)
  | alignOnce f => exact State.doneFrame_tableSound hs f _ (same ⟨rfl, rfl⟩)
  | clearCounters f => exact State.doneFrame_tableSound hs f _ (same ⟨rfl, rfl⟩)
  | ackConditions f m => exact State.doneFrame_tableSound hs f _ (same ⟨rfl, rfl⟩)
  | writeAlertEnable f m => exact State.doneFrame_tableSound hs f _ (same ⟨rfl, rfl⟩)
  | readRecord f o k => exact same (s.recordFrame_sameTable f o k)
  | discardHead f => exact State.frame_tableSound hs f _ (same s.discardHead_keeps.sameTable)
  | spillResume f => exact State.frame_tableSound hs f _ (same s.spillResume_keeps.sameTable)
  | spillSkip f => exact State.frame_tableSound hs f _ (same s.spillSkip_keeps.sameTable)
  | captureReset f => exact State.doneFrame_tableSound hs f _ (same s.captureReset_keeps.sameTable)
  | syncPulse l => exact same (s.syncinRise_keeps l).sameTable
  | lossWatchExpiry => exact State.whenDue_kept (fun _ => same s.loseSync_keeps.sameTable) hs
  | unknownCommandByte f b => exact State.frame_tableSound hs f _ hs
  | resetEnd => exact hs

theorem tableSound_keptByEvents : KeptByEvents State.tableSound where
  bookkeeping _ _ _ h := State.tableSound_of_sameTable ⟨rfl, rfl⟩ h
  beginEvent _ h := State.tableSound_of_sameTable ⟨rfl, rfl⟩ h
  takeEffect s h := State.tableSound_of_sameTable s.takeEffect_keeps.sameTable h
  tick _ h := State.tableSound_of_sameTable ⟨rfl, rfl⟩ h
  powerOn _ _ := State.tableSound_of_empty rfl
  endReset _ h := State.tableSound_of_sameTable ⟨rfl, rfl⟩ h
  effect := Instr.effect_tableSound

/-- Settles O54: every event changes at most one key's entries and then releases that key's answers. -/
theorem transitTableStaysSound : Obligations.TransitTableStaysSound := fun _ _ hs ht =>
  tableSound_keptByEvents.step hs ht

end Sys2Proof.Machine
end

section
/-! SUPPORT. Following a hold, case by case (R26, R27): what it leaves where HOLD is not in force, where an episode lasts or
no request waits, and where one starts. -/

namespace Sys2Proof.Machine

-- One theorem at a time: each would otherwise hold a thread of its own.
set_option Elab.async false

/-! ## HOLD and its causes -/

theorem State.holdInForce_iff (s : State) : s.holdInForce = true ↔
    s.config.active.capturePolicy? = some .hold ∧ s.config.active.mode? = some .observe ∧ s.storeLow = true ∧
      s.transit.holdExpired = false := by
  simp [State.holdInForce, and_assoc]

theorem State.clearExpired_eq (s : State) : s.clearExpired =
    { s with transit := { s.transit with holdExpired := s.transit.holdExpired && s.storeLow } } := by
  unfold State.clearExpired
  cases h : s.storeLow <;> simp

/-- HOLD needs STORE_LOW, and with it nothing clears the hold-expired state. -/
theorem State.holdInForce_clearExpired (s : State) : s.clearExpired.holdInForce = s.holdInForce := by
  unfold State.clearExpired
  cases h : s.storeLow
  · simp [State.holdInForce, h]
    intros
    exact h
  · rfl

theorem State.clearExpired_of_storeLow {s : State} (h : s.storeLow = true) : s.clearExpired = s := by
  simp [State.clearExpired, h]

/-- Where HOLD is not in force, no episode lasts (R26). -/
theorem State.followHold_released {s : State} (h : s.holdInForce = false) : s.followHold =
    { s with transit := { s.transit with holdExpired := s.transit.holdExpired && s.storeLow, holdTimer := none } } := by
  unfold State.followHold
  dsimp only
  rw [s.holdInForce_clearExpired, h, s.clearExpired_eq]
  rfl

/-- While HOLD is in force, an episode that lasts goes on, and none starts without a request. -/
theorem State.followHold_stays {s : State} (h : s.holdInForce = true)
    (hw : s.transit.holdTimer.isSome = true ∨ s.transit.upstream = none) : s.followHold = s := by
  have hc := State.clearExpired_of_storeLow (s.holdInForce_iff.1 h).2.2.1
  have hn : (s.transit.holdTimer.isNone && s.transit.upstream.isSome) = false := by
    rcases hw with hw | hw
    · rw [Option.isSome_iff_exists] at hw
      obtain ⟨n, hn⟩ := hw
      simp [hn]
    · simp [hw]
  unfold State.followHold
  dsimp only
  rw [hc, h, hn]
  rfl

/-- While HOLD is in force, an episode starts where a request waits and none lasts. -/
theorem State.followHold_starts {s : State} (h : s.holdInForce = true) (ht : s.transit.holdTimer = none)
    (hu : s.transit.upstream.isSome = true) : s.followHold = s.startEpisode := by
  have hc := State.clearExpired_of_storeLow (s.holdInForce_iff.1 h).2.2.1
  unfold State.followHold
  dsimp only
  rw [hc, h, ht, hu]
  rfl

/-- A request presented where none waits stands on the channel, a full table reports it, and hold follows (R3, R26). -/
theorem State.presentRequest_eq {s : State} (h : s.transit.upstream = none) (r : Request) : s.presentRequest r =
    (let t := { s with transit := { s.transit with upstream := some r } }
     if 48 ≤ s.transit.table.length then (t.raise .tableFull).followHold else t.followHold) := by
  unfold State.presentRequest
  rw [h]
  dsimp only
  simp only [Option.isSome_none, Bool.false_eq_true, if_false]
  exact apply_ite State.followHold _ _ _

/-- While HOLD is not in force a presented request starts no episode, and one that lasts ends. -/
theorem State.presentRequest_released {s : State} (h : s.transit.upstream = none) (hf : s.holdInForce = false)
    (r : Request) : s.presentRequest r =
    (let t := { s with transit := { s.transit with upstream := some r, holdTimer := none,
                                                   holdExpired := s.transit.holdExpired && s.storeLow } }
     if 48 ≤ s.transit.table.length then t.raise .tableFull else t) := by
  rw [State.presentRequest_eq h]
  dsimp only
  split <;> exact State.followHold_released hf

/-- While HOLD is in force a presented request starts an episode where none lasts. -/
theorem State.presentRequest_starts {s : State} (h : s.transit.upstream = none) (hf : s.holdInForce = true)
    (ht : s.transit.holdTimer = none) (r : Request) : s.presentRequest r =
    (let t := ({ s with transit := { s.transit with upstream := some r, holdTimer := some 0 } } : State).count
       .holdEpisodes
     if 48 ≤ s.transit.table.length then t.raise .tableFull else t) := by
  rw [State.presentRequest_eq h]
  dsimp only
  split <;> exact State.followHold_starts hf ht rfl

/-- Settles O7: HOLD's causes, then a presented request by whether HOLD is in force, from the three cases of following a
hold. -/
theorem presentedRequestAndHold : Obligations.PresentedRequestAndHold := by
  refine ⟨fun s => ⟨rfl, rfl, s.holdInForce_iff⟩, fun r s hr hu => ⟨fun hf => ?_, fun hf ht => ?_⟩, fun s => ?_⟩
  · rw [exec_running hr (by simp) (by simp)]
    exact congrArg _ (State.presentRequest_released (s := s.beginEvent) hu hf r)
  · rw [exec_running hr (by simp) (by simp)]
    exact congrArg _ (State.presentRequest_starts (s := s.beginEvent) hu hf ht r)
  · have hforce : (s.config.active.capturePolicy? == some .hold && s.config.active.mode? == some .observe &&
        s.storeLow && !(s.transit.holdExpired && s.storeLow)) = s.holdInForce := by
      unfold State.holdInForce
      cases s.storeLow <;> simp
    dsimp only
    rw [hforce]
    exact ⟨State.followHold_released, State.followHold_stays, State.followHold_starts⟩

/-! SUPPORT. The hold episode's invariant: following a hold makes it hold wherever no episode outlasts its request, and every
event that changes what HOLD reads is followed so. -/

/-! ## What the invariant reads -/

/-- No episode lasts without a request that waits. -/
def State.holdWaits (s : State) : Prop := s.transit.holdTimer.isSome = true → s.transit.upstream.isSome = true

/-- The same request waits and the same episode lasts. -/
structure State.SameWait (s t : State) : Prop where
  timer : t.transit.holdTimer = s.transit.holdTimer
  upstream : t.transit.upstream = s.transit.upstream

/-- And HOLD is in force in both or in neither. -/
structure State.SameHold (s t : State) : Prop extends s.SameWait t where
  force : t.holdInForce = s.holdInForce

theorem State.SameWait.rfl' (s : State) : s.SameWait s := ⟨rfl, rfl⟩

theorem State.SameWait.trans {s t u : State} (h : s.SameWait t) (k : t.SameWait u) : s.SameWait u :=
  ⟨k.timer.trans h.timer, k.upstream.trans h.upstream⟩

theorem State.SameHold.rfl' (s : State) : s.SameHold s := ⟨⟨rfl, rfl⟩, rfl⟩

theorem State.SameHold.trans {s t u : State} (h : s.SameHold t) (k : t.SameHold u) : s.SameHold u :=
  ⟨h.toSameWait.trans k.toSameWait, k.force.trans h.force⟩

theorem State.holdSound.waits {s : State} (h : s.holdSound) : s.holdWaits := fun ht => by
  unfold State.holdSound at h
  rw [ht] at h
  simpa using (Bool.and_eq_true_iff.1 h.symm).2

theorem State.SameWait.waits {s t : State} (h : s.SameWait t) (hs : s.holdWaits) : t.holdWaits := by
  unfold State.holdWaits
  rw [h.timer, h.upstream]
  exact hs

theorem State.SameHold.sound {s t : State} (h : s.SameHold t) (hs : s.holdSound) : t.holdSound := by
  unfold State.holdSound
  rw [h.timer, h.upstream, h.force]
  exact hs

/-- A change of what the invariant does not read keeps it. -/
theorem State.holdSound.same {s t : State} (h : s.holdSound) (ht : t.transit.holdTimer = s.transit.holdTimer := by rfl)
    (hu : t.transit.upstream = s.transit.upstream := by rfl) (hf : t.holdInForce = s.holdInForce := by rfl) :
    t.holdSound :=
  State.SameHold.sound ⟨⟨ht, hu⟩, hf⟩ h

/-- Where HOLD is not in force and no episode lasts, hold is sound. -/
theorem State.holdSound_of_released {s : State} (ht : s.transit.holdTimer = none)
    (hf : s.holdInForce = false ∨ s.transit.upstream = none) : s.holdSound := by
  unfold State.holdSound
  rcases hf with hf | hf <;> simp [ht, hf]

/-! ## Following, and expiring -/

theorem State.followHold_holdSound {s : State} (h : s.holdWaits) : s.followHold.holdSound := by
  cases hf : s.holdInForce with
  | false =>
    rw [State.followHold_released hf]
    refine State.holdSound_of_released rfl (.inl ?_)
    have := s.holdInForce_clearExpired
    rw [s.clearExpired_eq, hf] at this
    exact this
  | true =>
    cases ht : s.transit.holdTimer with
    | some n =>
      rw [State.followHold_stays hf (.inl (by simp [ht]))]
      simp [State.holdSound, ht, hf, h (by simp [ht])]
    | none =>
      cases hu : s.transit.upstream with
      | none =>
        rw [State.followHold_stays hf (.inr hu)]
        exact State.holdSound_of_released ht (.inr hu)
      | some r =>
        rw [State.followHold_starts hf ht (by simp [hu])]
        have : s.startEpisode.holdInForce = s.holdInForce := rfl
        simp [State.holdSound, this, hf]
        simp [State.startEpisode, hu]

theorem State.expireHold_holdSound (s : State) : s.expireHold.holdSound :=
  State.holdSound_of_released rfl (.inl (by simp [State.holdInForce, State.expireHold]))

theorem State.applyHold_holdSound {s : State} (h : s.holdWaits) : s.applyHold.holdSound := by
  unfold State.applyHold
  dsimp only
  split
  · exact State.expireHold_holdSound _
  · exact State.followHold_holdSound h

/-! ## The spill engine reads and writes nothing of HOLD but the directory -/

theorem cellsOf_modify_head (d : List DirectoryEntry) (h : HeadState) :
    cellsOf (d.modify 0 fun e => { e with state := h }) = cellsOf d := by
  cases d <;> rfl

theorem State.setHead_sameHold (s : State) (h : HeadState) : s.SameHold (s.setHead h) := by
  refine ⟨⟨rfl, rfl⟩, ?_⟩
  unfold State.holdInForce State.storeLow State.fireFits State.freeCells
  simp [cellsOf_modify_head]

theorem State.restEngine_sameHold (s : State) (e : EngineState) : s.SameHold (s.restEngine e) := ⟨⟨rfl, rfl⟩, rfl⟩
theorem State.raise_sameHold (s : State) (k : Sticky) : s.SameHold (s.raise k) := ⟨⟨rfl, rfl⟩, rfl⟩
theorem State.count_sameHold (s : State) (c : Counter) : s.SameHold (s.count c) := ⟨⟨rfl, rfl⟩, rfl⟩
theorem State.setTrigger_sameHold (s : State) (t : TriggerState) : s.SameHold (s.setTrigger t) := ⟨⟨rfl, rfl⟩, rfl⟩
theorem State.beginAttempt_sameHold (s : State) (e : EngineState) (a : Attempt) :
    s.SameHold (s.beginAttempt e a) := ⟨⟨rfl, rfl⟩, rfl⟩
theorem State.setProducer_sameHold (s : State) (p : Nat) (w : Word) : s.SameHold (s.setProducer p w) :=
  ⟨⟨rfl, rfl⟩, rfl⟩
theorem State.freeTag_sameHold (s : State) (t : Nat) : s.SameHold (s.freeTag t) := ⟨⟨rfl, rfl⟩, rfl⟩

theorem State.failAttempt_sameHold (s : State) (c : FaultCause) : s.SameHold (s.failAttempt c) :=
  .trans (t := s.endAttempt (.fault c)) ⟨⟨rfl, rfl⟩, rfl⟩
    ((State.setHead_sameHold _ _).trans (State.raise_sameHold _ _))

theorem State.placeHead_sameHold (s : State) : s.SameHold s.placeHead := by
  unfold State.placeHead
  split
  · exact s.restEngine_sameHold _
  · split
    · exact (s.restEngine_sameHold _).trans (State.raise_sameHold _ _)
    · exact (s.beginAttempt_sameHold _ _).trans (State.setHead_sameHold _ _)
    · exact s.beginAttempt_sameHold _ _
    · exact s.restEngine_sameHold _

theorem State.takeHead_sameHold (s : State) : s.SameHold s.takeHead := by
  unfold State.takeHead
  split
  · exact s.placeHead_sameHold
  · exact .rfl' _

theorem State.consumerOffer_sameHold (s : State) (sn : Snoop) : s.SameHold (s.consumerOffer sn) := by
  unfold State.consumerOffer State.judgeConsumer
  repeat' split
  · exact .rfl' _
  · dsimp only
    split
    · exact .trans (by exact ⟨⟨rfl, rfl⟩, rfl⟩) (State.placeHead_sameHold _)
    · exact ⟨⟨rfl, rfl⟩, rfl⟩
  · exact s.raise_sameHold _
  · exact s.count_sameHold _

theorem State.removeHead_holdSound {s : State} (h : s.holdWaits) : s.removeHead.holdSound :=
  State.followHold_holdSound (State.SameWait.waits ⟨rfl, rfl⟩ h)

theorem State.recordPublished_holdSound {s : State} (h : s.holdSound) (p : Nat) (w : Word) :
    (s.recordPublished p w).holdSound := by
  have removed : (s.setProducer p w).removeHead.holdSound :=
    State.removeHead_holdSound ((s.setProducer_sameHold p w).sound h).waits
  exact (((State.count_sameHold _ _).trans (State.restEngine_sameHold _ _)).trans (State.takeHead_sameHold _)).sound
    removed

theorem State.headSkipped_holdSound {s : State} (h : s.holdSound) : s.headSkipped.holdSound :=
  (((State.count_sameHold _ _).trans (State.restEngine_sameHold _ _)).trans (State.takeHead_sameHold _)).sound
    (State.removeHead_holdSound h.waits)

theorem State.bodyAcknowledged_sameHold (s : State) (a : Attempt) : s.SameHold (s.bodyAcknowledged a) := by
  unfold State.bodyAcknowledged
  dsimp only
  split
  · split
    · exact (s.restEngine_sameHold _).trans (State.takeHead_sameHold _)
    · exact s.beginAttempt_sameHold _ _
    · exact s.beginAttempt_sameHold _ _
  · exact ⟨⟨rfl, rfl⟩, rfl⟩

theorem State.currentAnswered_holdSound {s : State} (h : s.holdSound) (a : Attempt) (role : WriteRole)
    (status : Status) : (s.currentAnswered a role status).holdSound := by
  unfold State.currentAnswered
  split
  · exact (s.failAttempt_sameHold _).sound h
  · exact (s.bodyAcknowledged_sameHold a).sound h
  · split
    · exact (((s.setProducer_sameHold _ _).trans (State.restEngine_sameHold _ _)).trans
        (State.placeHead_sameHold _)).sound h
    · exact State.recordPublished_holdSound h _ _
    · exact State.recordPublished_holdSound h _ _

theorem State.staleAnswered_sameHold (s : State) (role : WriteRole) (status : Status) :
    s.SameHold (s.staleAnswered role status) := by
  unfold State.staleAnswered
  split
  · exact .rfl' _
  · split
    · exact (s.setProducer_sameHold _ _).trans (State.takeHead_sameHold _)
    · exact s.takeHead_sameHold

theorem State.spillResponse_holdSound {s : State} (h : s.holdSound) (tag : Tag) (status : Status) :
    (s.spillResponse tag status).1.holdSound := by
  unfold State.spillResponse
  split
  · split
    · dsimp only
      split
      · exact ((s.freeTag_sameHold _).trans (State.staleAnswered_sameHold _ _ _)).sound h
      · split
        · exact State.currentAnswered_holdSound ((s.freeTag_sameHold _).sound h) _ _ _
        · exact (s.freeTag_sameHold _).sound h
    · exact h
  · exact (s.freeTag_sameHold _).sound h
  · exact h
  · exact h

/-! ## Records and fires -/

theorem State.fileRecord_sameWait (s : State) (r : OpenRecord) : s.SameWait (s.fileRecord r) := by
  unfold State.fileRecord
  dsimp only
  split <;> split <;> exact ⟨rfl, rfl⟩

theorem State.leaveCapture_sameHold (s : State) : s.SameHold s.leaveCapture := by
  unfold State.leaveCapture
  split <;> exact ⟨⟨rfl, rfl⟩, rfl⟩

theorem State.closeRecord_holdSound {s : State} (h : s.holdWaits) (r : OpenRecord) : (s.closeRecord r).holdSound := by
  refine State.followHold_holdSound (State.SameWait.waits ?_ h)
  refine (s.fileRecord_sameWait r).trans (.trans ?_ (State.takeHead_sameHold _).toSameWait)
  split
  · exact (State.setTrigger_sameHold _ _).toSameWait
  · exact (State.leaveCapture_sameHold _).toSameWait

theorem State.fire_holdSound {s : State} (h : s.holdSound) (c : TriggerCause) (b : Bool) :
    (s.fire c b).holdSound := by
  have opened : (s.openFor c b).holdWaits := State.SameWait.waits ⟨rfl, rfl⟩ h.waits
  unfold State.fire
  split
  · dsimp only
    split
    · exact State.closeRecord_holdSound opened _
    · exact State.followHold_holdSound opened
  · exact h.same

theorem State.offer_holdSound {s : State} (h : s.holdSound) (o : Observation) : (s.offer o).state.holdSound := by
  unfold State.offer
  split
  · exact h
  · split
    · exact h.same
    · dsimp only
      split
      · dsimp only
        exact State.closeRecord_holdSound h.waits _
      · split
        · dsimp only
          exact State.closeRecord_holdSound h.waits _
        · exact h.same

theorem State.abortRecord_holdSound {s : State} (h : s.holdSound) : s.abortRecord.holdSound := by
  unfold State.abortRecord
  split
  · exact State.closeRecord_holdSound h.waits _
  · exact (s.setTrigger_sameHold _).sound h

/-! ## The trigger unit and the observation path -/

theorem State.retrigger_sameHold (s : State) : s.SameHold s.retrigger := ⟨⟨rfl, rfl⟩, rfl⟩

theorem State.enterStage_sameHold (s : State) (n : Nat) : s.SameHold (s.enterStage n) := ⟨⟨rfl, rfl⟩, rfl⟩

theorem State.satisfyStage_holdSound {s : State} (h : s.holdSound) (n : Nat) (b : Bool) :
    (s.satisfyStage n b).holdSound := by
  unfold State.satisfyStage
  split
  · exact (s.enterStage_sameHold _).sound h
  · exact State.fire_holdSound h _ _
  · exact h

theorem State.evaluateTrigger_holdSound {s : State} (h : s.holdSound) (o : Observation) :
    (s.evaluateTrigger o).holdSound := by
  unfold State.evaluateTrigger State.evaluateHits
  split
  · exact h
  · dsimp only
    split
    · split
      · exact State.satisfyStage_holdSound h _ _
      · exact (s.setTrigger_sameHold _).sound h
    · split
      · exact State.satisfyStage_holdSound h _ _
      · exact h
    · exact h
    · exact h
  · split
    · exact s.retrigger_sameHold.sound h
    · exact h

theorem State.triginEdgeSeen_holdSound {s : State} (h : s.holdSound) : s.triginEdgeSeen.holdSound := by
  unfold State.triginEdgeSeen
  split
  · split
    · exact State.satisfyStage_holdSound h _ _
    · exact h
  · exact State.fire_holdSound h _ _
  · exact s.retrigger_sameHold.sound h
  · exact s.retrigger_sameHold.sound h
  · exact h

theorem State.armUnit_sameHold (s : State) : s.SameHold s.armUnit.1 := by
  unfold State.armUnit
  split
  · split
    · exact s.enterStage_sameHold _
    · exact .rfl' _
  · exact .rfl' _
  · exact .rfl' _

theorem State.disarmUnit_holdSound {s : State} (h : s.holdSound) : s.disarmUnit.holdSound := by
  unfold State.disarmUnit
  split
  · exact h
  · exact (s.setTrigger_sameHold _).sound h
  · exact State.abortRecord_holdSound h

theorem State.forceUnit_holdSound {s : State} (h : s.holdSound) (c : TriggerCause) :
    (s.forceUnit c).1.holdSound := by
  unfold State.forceUnit
  split
  · exact h
  · exact State.fire_holdSound h _ _
  · exact s.retrigger_sameHold.sound h

theorem State.observe_holdSound {s : State} (h : s.holdSound) (b : ObsBody) (d : Option Beat) :
    (s.observe b d).holdSound := by
  have offered : ∀ o, ((s.numbered o).offer o).state.holdSound := fun o =>
    State.offer_holdSound h.same o
  have entered : ∀ o c, (((s.numbered o).offer o).state.enterRing o c).holdSound := fun o c =>
    (offered o).same
  unfold State.observe State.observationPath
  split
  · dsimp only
    split
    · exact entered _ _
    · exact State.evaluateTrigger_holdSound (entered _ _) _
  · exact h

theorem State.snoopOffer_holdSound {s : State} (h : s.holdSound) (sn : Snoop) (i : Initiator) :
    (s.snoopOffer sn i).holdSound := by
  have counted : ∀ {t : State}, t.holdSound → ∀ c, (t.count c).holdSound := fun ht c =>
    (State.count_sameHold _ c).sound ht
  unfold State.snoopOffer State.commandOffer State.decodeCommand
  split
  · split
    · exact h
    · split
      · exact counted h _
      · split
        · exact counted h _
        · dsimp only
          repeat' split
          · exact counted (s.armUnit_sameHold.sound h) _
          · exact counted (State.disarmUnit_holdSound h) _
          · exact counted (State.forceUnit_holdSound h _) _
          · exact counted (State.observe_holdSound h _ _) _
          · exact counted (t := s.clearCounters) h.same _
          · exact (s.raise_sameHold _).sound h
  · exact (s.consumerOffer_sameHold sn).sound h

/-! ## An apply -/

theorem State.applyTrigger_sameWait (s : State) : s.SameWait s.applyTrigger := by
  unfold State.applyTrigger
  repeat' split
  all_goals exact ⟨rfl, rfl⟩

theorem State.spillGeometryChanged_sameWait (s : State) : s.SameWait s.spillGeometryChanged := by
  unfold State.spillGeometryChanged
  split <;> exact ⟨rfl, rfl⟩

theorem State.applyLossWatch_sameWait (s : State) : s.SameWait s.applyLossWatch := by
  unfold State.applyLossWatch
  split <;> exact ⟨rfl, rfl⟩

theorem State.takeEffect_holdSound {s : State} (h : s.holdWaits) : s.takeEffect.holdSound := by
  have geometry : ∀ (t : State) (c : Bool), t.SameWait (if c then t.spillGeometryChanged else t) := fun t c => by
    split
    · exact t.spillGeometryChanged_sameWait
    · exact .rfl' _
  have installed : s.SameWait s.installStaged := ⟨rfl, rfl⟩
  refine (State.raise_sameHold _ _).sound (State.applyHold_holdSound (State.SameWait.waits ?_ h))
  exact installed.trans <| (State.applyTrigger_sameWait _).trans <| (geometry _ _).trans
    (State.applyLossWatch_sameWait _)

theorem State.takeDueApply_holdSound {s : State} (h : s.holdSound) : s.takeDueApply.holdSound := by
  unfold State.takeDueApply
  split
  · exact State.takeEffect_holdSound h.waits
  · exact h

theorem State.applyCommand_holdSound {s : State} (h : s.holdSound) : s.applyCommand.1.holdSound := by
  unfold State.applyCommand State.requestApply
  split
  · exact h
  · split
    · exact h.same
    · dsimp only
      split
      · exact State.takeEffect_holdSound (State.SameWait.waits ⟨rfl, rfl⟩ h.waits)
      · exact h.same

theorem State.observeAndOffer_holdSound {s : State} (h : s.holdSound) (b : ObsBody) (d : Option Beat)
    (o : Option Snoop) (i : Initiator) : (s.observeAndOffer b d o i).holdSound := by
  have spent : (s.spendChoices 1).holdSound := h.same
  unfold State.observeAndOffer
  split
  · exact State.observe_holdSound h b d
  · dsimp only
    split
    · exact State.snoopOffer_holdSound (State.takeDueApply_holdSound (State.observe_holdSound spent b d)) _ i
    · exact State.observe_holdSound (State.takeDueApply_holdSound (State.snoopOffer_holdSound spent _ i)) b d

/-! ## The transit unit's events -/

theorem State.release_sameHold (s : State) (k : Key) : s.SameHold (s.release k) := ⟨⟨rfl, rfl⟩, rfl⟩

theorem State.updateEntry_sameHold (s : State) (id : Nat) (f : Entry → Entry) : s.SameHold (s.updateEntry id f) :=
  ⟨⟨rfl, rfl⟩, rfl⟩

theorem State.presentRequest_holdSound {s : State} (h : s.holdSound) (r : Request) :
    (s.presentRequest r).holdSound := by
  cases hu : s.transit.upstream with
  | some q =>
    simp only [State.presentRequest, hu, Option.isSome_some, if_true]
    exact h
  | none =>
    rw [State.presentRequest_eq hu]
    dsimp only
    split <;> exact State.followHold_holdSound fun _ => rfl

/-- A TAKE needs HOLD not in force, so no episode lasts when its request leaves the channel (R3). -/
theorem State.takeRequest_holdSound {s : State} (h : s.holdSound) (hf : s.holdInForce = false) (r : Request) :
    (s.takeRequest r).holdSound := by
  have ht : s.transit.holdTimer = none := by
    unfold State.holdSound at h
    simpa [hf] using h
  have joined : ∀ e, (s.joinTable e).holdSound := fun e => State.holdSound_of_released ht (.inr rfl)
  unfold State.takeRequest
  split
  · exact (State.release_sameHold _ _).sound
      (State.observe_holdSound ((State.count_sameHold _ _).sound (joined _)) _ _)
  · exact (joined (s.newEntry r .forwarded .queued .waiting .pending (snoopBeat s.config.active r))).same

theorem State.takePresented_holdSound {s : State} (h : s.holdSound) : s.takePresented.holdSound := by
  unfold State.takePresented
  split
  · refine State.whenDue_kept (fun hdue => ?_) h
    obtain ⟨-, -, hf, -⟩ := s.canTake_iff.1 hdue
    exact State.takeRequest_holdSound h hf _
  · exact h

theorem State.arbitrate_sameHold (s : State) : s.SameHold s.arbitrate := by
  unfold State.arbitrate
  repeat' split
  · exact .rfl' _
  · exact .rfl' _
  · exact ⟨⟨rfl, rfl⟩, rfl⟩
  · exact ⟨⟨rfl, rfl⟩, rfl⟩
  · exact ⟨⟨rfl, rfl⟩, rfl⟩
  · exact ⟨⟨rfl, rfl⟩, rfl⟩

theorem State.takeDownstream_sameHold (s : State) : s.SameHold s.takeDownstream := by
  unfold State.takeDownstream
  split
  · exact .rfl' _
  · dsimp only
    split <;> exact ⟨⟨rfl, rfl⟩, rfl⟩

theorem State.orphanResponse_holdSound {s : State} (h : s.holdSound) (r : Response) :
    (s.orphanResponse r).holdSound :=
  State.observe_holdSound (((s.raise_sameHold _).trans (State.count_sameHold _ _)).sound h) _ _

theorem State.memoryResponse_holdSound {s : State} (h : s.holdSound) (r : Response) :
    (s.memoryResponse r).holdSound := by
  unfold State.memoryResponse
  dsimp only
  split
  · exact State.orphanResponse_holdSound h.same r
  · split
    · exact State.orphanResponse_holdSound h r
    · split
      · exact (State.release_sameHold _ _).sound (State.observe_holdSound
          ((((s.updateEntry_sameHold _ _).trans (State.raise_sameHold _ _)).trans (State.count_sameHold _ _)).sound h)
          _ _)
      · exact (State.release_sameHold _ _).sound (State.observeAndOffer_holdSound
          ((s.updateEntry_sameHold _ _).sound h) _ _ _ _)

theorem State.takeResponse_holdSound {s : State} (h : s.holdSound) (r : Response) : (s.takeResponse r).holdSound := by
  unfold State.takeResponse
  split
  · dsimp only
    split
    · exact State.spillResponse_holdSound h _ _
    · exact State.orphanResponse_holdSound (State.spillResponse_holdSound h _ _) r
  · exact State.memoryResponse_holdSound h r

theorem State.expireEntry_holdSound {s : State} (h : s.holdSound) (e : Entry) : (s.expireEntry e).holdSound := by
  have reported : ∀ {t : State}, t.holdSound → ∀ b, (t.reportOverdue.observe b none).holdSound := fun ht b =>
    State.observe_holdSound (((State.raise_sameHold _ _).trans (State.count_sameHold _ _)).sound ht) b none
  unfold State.expireEntry
  split
  · exact reported ((s.updateEntry_sameHold _ _).sound h) _
  · split
    · exact (State.release_sameHold _ _).sound (reported (by exact h.same) _)
    · exact (State.release_sameHold _ _).sound (reported ((s.updateEntry_sameHold _ _).sound h) _)
  · exact h

theorem State.expireAt_holdSound {s : State} (h : s.holdSound) (k : Key) (age : Nat) :
    (s.expireAt k age).holdSound := by
  unfold State.expireAt
  split
  · exact State.whenDue_kept (fun _ => State.expireEntry_holdSound h _) h
  · exact h

/-! ## Resets, edges and the time base -/

/-- The default set has policy SKIP: after a FULL_RESET HOLD is not in force. -/
theorem State.fullResetEffect_holdSound (s : State) (abandoned : Bool) : (s.fullResetEffect abandoned).holdSound := by
  unfold State.fullResetEffect
  cases abandoned <;> exact State.holdSound_of_released rfl (.inl rfl)

theorem State.startQuiesce_holdSound {s : State} (h : s.holdSound) : s.startQuiesce.holdSound := by
  unfold State.startQuiesce
  dsimp only
  split
  · exact State.fullResetEffect_holdSound _ _
  · exact h.same

theorem State.captureReset_holdSound {s : State} (h : s.holdSound) : s.captureReset.holdSound := by
  rw [State.captureReset_eq]
  refine State.followHold_holdSound (State.SameWait.waits (s := s) ?_ h.waits)
  rcases s.captureEmptied.spillCaptureReset_cases with hc | hc <;> rw [hc] <;> exact ⟨rfl, rfl⟩

theorem State.triginRise_holdSound {s : State} (h : s.holdSound) (l : LineRise) : (s.triginRise l).holdSound := by
  unfold State.triginRise
  dsimp only
  split
  · exact State.triginEdgeSeen_holdSound h.same
  · exact h.same

theorem State.recordPulse_sameHold (s : State) (d : Int) : s.SameHold (s.recordPulse d) := ⟨⟨rfl, rfl⟩, rfl⟩

theorem State.endPulse_sameHold (s : State) : s.SameHold s.endPulse := ⟨⟨rfl, rfl⟩, rfl⟩

theorem State.realigned_sameHold (s : State) (d : Int) : s.SameHold (s.realigned d) := ⟨⟨rfl, rfl⟩, rfl⟩

theorem State.pulse_holdSound {s : State} (h : s.holdSound) : s.pulse.holdSound := by
  have slips : ∀ {t : State} (c : Bool), t.holdSound → (if c then t.slip else t).holdSound := fun c ht => by
    split
    · exact State.observe_holdSound (((State.raise_sameHold _ _).trans (State.count_sameHold _ _)).sound ht) _ _
    · exact ht
  have realigns : ∀ {t : State} (c : Bool) (d : Int), t.holdSound → (if c then t.realign d else t).holdSound :=
    fun {t} c d ht => by
      split
      · exact State.observe_holdSound ((t.realigned_sameHold d).sound ht) _ _
      · exact ht
  exact (State.endPulse_sameHold _).sound (realigns _ _ (slips _ ((s.recordPulse_sameHold _).sound h)))

theorem State.syncinRise_holdSound {s : State} (h : s.holdSound) (l : LineRise) : (s.syncinRise l).holdSound := by
  unfold State.syncinRise
  dsimp only
  split
  · exact State.pulse_holdSound h.same
  · exact h.same

theorem State.loseSync_holdSound {s : State} (h : s.holdSound) : s.loseSync.holdSound :=
  State.observe_holdSound (s := ({ s with clock := { s.clock with lossWatch := .lost } } : State).raise .syncLost) h.same
    _ _

theorem State.tick_holdSound {s : State} (h : s.holdSound) : s.tick.holdSound := by
  have hforce : s.tick.holdInForce = s.holdInForce := rfl
  unfold State.holdSound at h ⊢
  rw [hforce]
  simpa [State.tick] using h

/-! ## The management port -/

theorem State.answer_sameHold (s : State) (f : Frame) (d : List Byte) (r : Result) : s.SameHold (s.answer f d r) :=
  ⟨⟨rfl, rfl⟩, rfl⟩

theorem State.frame_holdSound {s : State} (hs : s.holdSound) (f : Frame) (need : Nat)
    {act : State → State × Result} (hact : (act s).1.holdSound) : (s.frame f need act).holdSound :=
  State.frame_kept f need (fun h => h.same)
    (fun t h _ => (t.answer_sameHold f _ _).sound h) (fun _ => hact) hs

theorem State.doneFrame_holdSound {s : State} (hs : s.holdSound) (f : Frame) (need : Nat) {act : State → State}
    (hact : (act s).holdSound) : (s.doneFrame f need act).holdSound :=
  State.frame_holdSound hs f need hact

theorem State.readFrame_sameHold (s : State) (f : Frame) (w : Option Word) : s.SameHold (s.readFrame f w) := by
  unfold State.readFrame
  repeat' split
  all_goals exact ⟨⟨rfl, rfl⟩, rfl⟩

theorem State.statusFrame_sameHold (s : State) (f : Frame) (i : BitVec 16) : s.SameHold (s.statusFrame f i) := by
  unfold State.statusFrame
  dsimp only
  repeat' split
  all_goals exact ⟨⟨rfl, rfl⟩, rfl⟩

theorem State.recordFrame_sameHold (s : State) (f : Frame) (o : BitVec 16) (k : Option Nat) :
    s.SameHold (s.recordFrame f o k) := by
  unfold State.recordFrame
  repeat' split
  all_goals exact ⟨⟨rfl, rfl⟩, rfl⟩

theorem State.writeStagedWord_sameHold (s : State) (i : BitVec 16) (w : Word) :
    s.SameHold (s.writeStagedWord i w).1 := by
  unfold State.writeStagedWord
  repeat' split
  all_goals exact ⟨⟨rfl, rfl⟩, rfl⟩

theorem State.discardHead_holdSound {s : State} (h : s.holdSound) : s.discardHead.1.holdSound := by
  unfold State.discardHead
  split
  · exact (State.count_sameHold _ _).sound (State.removeHead_holdSound h.waits)
  · exact h

theorem State.spillResume_holdSound {s : State} (h : s.holdSound) : s.spillResume.1.holdSound := by
  rcases s.spillResume_cases with hc | hc | hc <;> rw [hc]
  · exact (s.beginAttempt_sameHold _ _).sound h
  · exact s.placeHead_sameHold.sound h
  · exact h

theorem State.spillSkip_holdSound {s : State} (h : s.holdSound) : s.spillSkip.1.holdSound := by
  rcases s.spillSkip_cases with hc | hc <;> rw [hc]
  · exact State.headSkipped_holdSound h
  · exact h

/-! ## Every event -/

theorem Instr.effect_holdSound (c : Instr) (s : State) (hs : s.holdSound) : (Instr.effect c s).holdSound := by
  have same : ∀ {t : State}, s.SameHold t → t.holdSound := fun h => h.sound hs
  cases c with
  | requestPresented r => exact State.presentRequest_holdSound hs r
  | take => exact State.takePresented_holdSound hs
  | holdExpiry => exact State.whenDue_kept (fun _ => s.expireHold_holdSound) hs
  | grant => exact same s.arbitrate_sameHold
  | dPortTake => exact same s.takeDownstream_sameHold
  | dPortResponse r => exact State.takeResponse_holdSound hs r
  | overdueExpiry i t a => exact State.expireAt_holdSound hs ⟨i, t⟩ a
  | fullReset f => exact State.doneFrame_holdSound hs f 1 (State.startQuiesce_holdSound hs)
  | quiesceComplete => exact State.whenDue_kept (fun _ => State.fullResetEffect_holdSound _ _) (s := s) hs
  | quiesceAbandon => exact State.whenDue_kept (fun _ => State.fullResetEffect_holdSound _ _) (s := s) hs
  | porRstn => exact hs
  | stageTimeout => exact State.whenDue_kept (fun _ => same ⟨⟨rfl, rfl⟩, rfl⟩) hs
  | triginEdge l => exact State.triginRise_holdSound hs l
  | trigoutPulseEnd => exact State.whenDue_kept (fun _ => same ⟨⟨rfl, rfl⟩, rfl⟩) hs
  | readActive f i => exact same (s.readFrame_sameHold f _)
  | readStaged f i => exact same (s.readFrame_sameHold f _)
  | writeStaged f i w => exact State.frame_holdSound hs f _ (same (s.writeStagedWord_sameHold i w))
  | readStatus f i => exact same (s.statusFrame_sameHold f i)
  | rawTimeSnapshot f => exact same (s.statusFrame_sameHold f _)
  | apply f => exact State.frame_holdSound hs f _ (State.applyCommand_holdSound hs)
  | applyTakesEffect => exact State.takeDueApply_holdSound hs
  | arm f => exact State.frame_holdSound hs f _ (same s.armUnit_sameHold)
  | disarm f => exact State.doneFrame_holdSound hs f _ (State.disarmUnit_holdSound hs)
  | force f => exact State.frame_holdSound hs f _ (State.forceUnit_holdSound hs _)
  | alignOnce f => exact State.doneFrame_holdSound hs f _ (same ⟨⟨rfl, rfl⟩, rfl⟩)
  | clearCounters f => exact State.doneFrame_holdSound hs f _ (same ⟨⟨rfl, rfl⟩, rfl⟩)
  | ackConditions f m => exact State.doneFrame_holdSound hs f _ (same ⟨⟨rfl, rfl⟩, rfl⟩)
  | writeAlertEnable f m => exact State.doneFrame_holdSound hs f _ (same ⟨⟨rfl, rfl⟩, rfl⟩)
  | readRecord f o k => exact same (s.recordFrame_sameHold f o k)
  | discardHead f => exact State.frame_holdSound hs f _ (State.discardHead_holdSound hs)
  | spillResume f => exact State.frame_holdSound hs f _ (State.spillResume_holdSound hs)
  | spillSkip f => exact State.frame_holdSound hs f _ (State.spillSkip_holdSound hs)
  | captureReset f => exact State.doneFrame_holdSound hs f _ (State.captureReset_holdSound hs)
  | syncPulse l => exact State.syncinRise_holdSound hs l
  | lossWatchExpiry => exact State.whenDue_kept (fun _ => State.loseSync_holdSound hs) hs
  | unknownCommandByte f b => exact State.frame_holdSound hs f _ hs
  | resetEnd => exact hs

theorem holdSound_keptByEvents : KeptByEvents State.holdSound where
  bookkeeping _ _ _ h := h.same
  beginEvent _ h := h.same
  takeEffect _ h := State.takeEffect_holdSound h.waits
  tick _ h := State.tick_holdSound h
  powerOn _ _ := State.holdSound_of_released rfl (.inl rfl)
  endReset _ h := h.same
  effect := Instr.effect_holdSound

/-- Settles O59: whatever changes the store, the set or the channel is followed by hold, and a TAKE meets no episode. -/
theorem holdEpisodeStaysSound : Obligations.HoldEpisodeStaysSound := fun _ _ hs ht =>
  holdSound_keptByEvents.step hs ht

end Sys2Proof.Machine
end

section
/-! SUPPORT. What an operand covers, the arbiter, the timed events and the resets, each said once in plain terms. -/

namespace Sys2Proof.Machine

-- One theorem at a time: each would otherwise hold a thread of its own.
set_option Elab.async false

/-! ## The reset state -/

/-- Settles O6: each value is the one the reset state is written with. -/
theorem resetHoldsPowerOnValues : Obligations.ResetHoldsPowerOnValues := by
  unfold Obligations.ResetHoldsPowerOnValues
  and_intros <;> rfl

/-- The default set passes the ten checks of R152. -/
theorem ParamSet.defaults_firstFailed : ParamSet.defaults.firstFailed = none := by decide +kernel

theorem reset_setsSound : State.reset.setsSound :=
  ⟨⟨rfl, rfl⟩, ⟨rfl, rfl⟩, ParamSet.defaults_firstFailed, fun h => by cases h⟩

/-- Settles O60: nothing is held, the default set passes its checks, and it has route PORT and policy SKIP. -/
theorem resetIsSound : Obligations.ResetIsSound := by
  refine ⟨State.tableSound_of_empty rfl, ⟨by decide, fun p hp => by cases hp⟩, reset_setsSound,
    ⟨reset_setsSound, ⟨by decide, rfl⟩, by decide, by decide, fun _ e he => by cases he⟩,
    ⟨?_, by decide, by decide, rfl⟩, State.holdSound_of_released rfl (.inl rfl)⟩
  have route : State.reset.config.active.drainRoute? ≠ some .spill := by decide
  exact ⟨fun _ h => route h.1, fun _ => rfl⟩

/-- Settles O23: POR/RSTN and its end are no events of the part, and hold in any state. -/
theorem powerOnResetsWholePart : Obligations.PowerOnResetsWholePart := fun s => by
  refine ⟨rfl, fun h => ?_, fun h => ?_⟩
  · exact congrArg _ (if_pos h)
  · exact congrArg _ (if_neg (by simp [h]))

/-! ## A burst and a word (R1, R4, R20) -/

/-- A burst has its beat `k` on a word exactly where that beat lies at the word's address. -/
theorem beatAt_eq_some_iff {address beats word k : Nat} :
    beatAt address beats word = some k ↔ address + 8 * k = word ∧ k < beats := by
  unfold beatAt
  split
  · rw [Option.some_inj]
    omega
  · rename_i h
    simp only [reduceCtorEq, false_iff]
    omega

theorem beatAt_eq_none_iff {address beats word : Nat} :
    beatAt address beats word = none ↔ ∀ k < beats, address + 8 * k ≠ word := by
  rw [Option.eq_none_iff_forall_ne_some]
  exact ⟨fun h k hk hw => h k (beatAt_eq_some_iff.2 ⟨hw, hk⟩),
    fun h k hk => h k (beatAt_eq_some_iff.1 hk).2 (beatAt_eq_some_iff.1 hk).1⟩

theorem beatAt_isSome_iff {address beats word : Nat} :
    (beatAt address beats word).isSome = true ↔ ∃ k < beats, address + 8 * k = word := by
  rw [Option.isSome_iff_exists]
  exact exists_congr fun k => beatAt_eq_some_iff.trans and_comm

theorem ParamSet.inRing_iff (p : ParamSet) (a : Nat) :
    p.inRing a = true ↔ p.spillBase.toNat ≤ a ∧ a < p.spillBase.toNat + p.spillSize.toNat := by
  simp [ParamSet.inRing]

theorem updatesWord_iff (r : Request) (word : Nat) : updatesWord r word = true ↔
    r.beats = 1 ∧ r.address.toNat = word ∧ r.data.head?.map (·.mask) = some 0xFF := by
  unfold updatesWord fullMask
  simp only [Bool.and_eq_true, beq_iff_eq, and_assoc]

/-- A WRITE reaches the protected area with a beat in the ring outside the consumer word, or on the consumer word without
being a well-formed update of it (R4). -/
theorem reachesProtected_iff (p : ParamSet) (r : Request) : reachesProtected p r = true ↔
    (∃ k < r.beats, p.spillBase.toNat ≤ r.address.toNat + 8 * k ∧
      r.address.toNat + 8 * k < p.spillBase.toNat + p.spillSize.toNat ∧
      r.address.toNat + 8 * k ≠ p.spillBase.toNat + 16) ∨
    ((∃ k < r.beats, r.address.toNat + 8 * k = p.spillBase.toNat + 16) ∧
      ¬(r.beats = 1 ∧ r.address.toNat = p.spillBase.toNat + 16 ∧ r.data.head?.map (·.mask) = some 0xFF)) := by
  unfold reachesProtected ParamSet.consumerAddress
  rw [Bool.or_eq_true, Bool.and_eq_true, beatAt_isSome_iff, Bool.not_eq_true', ← Bool.not_eq_true, updatesWord_iff,
    List.any_eq_true]
  simp only [List.mem_range, Bool.and_eq_true, ParamSet.inRing_iff, bne_iff_ne, and_assoc]

theorem crossesBoundary_iff (address beats : Nat) :
    crossesBoundary address beats = true ↔ 4096 < address % 4096 + 8 * beats := by
  simp [crossesBoundary]

/-- Settles O8: the three tests in plain terms, and the order of the checks. -/
theorem declineChecksDecideInOrder : Obligations.DeclineChecksDecideInOrder := fun p r => by
  dsimp only
  rw [← crossesBoundary_iff, ← reachesProtected_iff]
  have window : (r.kind == .write && p.protection && p.ringValid && reachesProtected p r) = true ↔
      r.kind = .write ∧ p.protection = true ∧ p.ringValid = true ∧ reachesProtected p r = true := by
    simp only [Bool.and_eq_true, beq_iff_eq, and_assoc]
  rw [← window]
  unfold declineReason
  by_cases h1 : r.initiator = 15
  · simp [h1]
  · by_cases h2 : crossesBoundary r.address.toNat r.beats = true
    · rw [if_neg h1, if_pos h2]
      simp only [h1, h2, ne_eq, not_true, not_false_eq_true, false_and, true_and, and_self, Option.some.injEq,
        reduceCtorEq]
    · rw [if_neg h1, if_neg h2]
      split
      all_goals
        rename_i hw
        simp only [h1, h2, hw, ne_eq, not_false_eq_true, and_false, and_self, Option.some.injEq, reduceCtorEq]

/-! ## The arbiter and the D-port (R11, R12) -/

/-- The forward head is granted where the engine does not claim, or claims with room in the store and turns left. -/
theorem State.arbitrate_forward {s : State} (hd : s.transit.dPort = none) {q : QueuedRequest}
    {rest : List QueuedRequest} (hq : s.transit.forwardQueue = q :: rest)
    (h : s.spillClaim = none ∨ (s.storeLow = false ∧ s.transit.runCount < s.config.active.share.toNat)) :
    s.arbitrate = s.grantForward q rest (if s.spillClaim.isSome then s.transit.runCount + 1 else 0) := by
  unfold State.arbitrate
  rw [hd, hq]
  cases hc : s.spillClaim with
  | none => rfl
  | some c =>
    obtain ⟨hl, hr⟩ := h.resolve_left (by simp [hc])
    have hs : ¬s.config.active.share.toNat ≤ s.transit.runCount := by omega
    simp [hl, hs]

/-- The engine's write is granted in every other case in which the engine claims. -/
theorem State.arbitrate_spill {s : State} (hd : s.transit.dPort = none) {c : Nat × SpillWrite × WriteRole × Attempt}
    (hc : s.spillClaim = some c)
    (h : s.transit.forwardQueue = [] ∨ s.storeLow = true ∨ s.config.active.share.toNat ≤ s.transit.runCount) :
    s.arbitrate = s.grantSpillWrite c := by
  unfold State.arbitrate
  rw [hd, hc]
  cases hq : s.transit.forwardQueue with
  | nil => rfl
  | cons q rest =>
    have hs : (s.storeLow || decide (s.config.active.share.toNat ≤ s.transit.runCount)) = true := by
      simpa [hq] using h
    simp [hs]

/-- With no claimant nothing is granted (log entry 2). -/
theorem State.arbitrate_unclaimed {s : State} (hd : s.transit.dPort = none) (hq : s.transit.forwardQueue = [])
    (hc : s.spillClaim = none) : s.arbitrate = s := by
  unfold State.arbitrate
  rw [hd, hq, hc]
  rfl

/-- Settles O10: the two grants and the one case without a claimant. -/
theorem grantFollowsDecisionTable : Obligations.GrantFollowsDecisionTable := fun s hr hd => by
  rw [exec_running hr (by simp) (by simp)]
  refine ⟨fun q rest hq h => ?_, fun tag w role a hc h => ?_, fun hq hc => ?_⟩
  · exact congrArg _ (State.arbitrate_forward (s := s.beginEvent) hd hq h)
  · exact congrArg _ (State.arbitrate_spill (s := s.beginEvent) hd hc h)
  · exact congrArg _ (State.arbitrate_unclaimed (s := s.beginEvent) hd hq hc)

/-- Settles O12: the claimant of the presented request says whose request is taken. -/
theorem dPortTakeFreesChannel : Obligations.DPortTakeFreesChannel := fun s r hr => by
  rw [exec_running hr (by simp) (by simp)]
  refine ⟨fun id hd => ?_, fun u hd hu => ?_⟩
  · have hd' : s.beginEvent.transit.dPort = some ⟨r, .forward id⟩ := hd
    simp only [Instr.effect, State.takeDownstream, hd']
    rfl
  · have hd' : s.beginEvent.transit.dPort = some ⟨r, .spill⟩ := hd
    simp only [Instr.effect, State.takeDownstream, hd', State.spillTaken, State.beginEvent_spill,
      List.modify_eq_set_getElem?, hu]
    rfl

/-! ## Timed events (R27, R67, R81, R144) -/

theorem State.whenDue_due {s : State} {due : Bool} (h : due = true) (k : State → State) : s.whenDue due k = k s :=
  if_pos h

theorem State.whenDue_not {s : State} {due : Bool} (h : due = false) (k : State → State) : s.whenDue due k = s :=
  if_neg (by simp [h])

theorem State.holdLimitReached_iff (s : State) : s.holdLimitReached = true ↔
    ∃ t, s.transit.holdTimer = some t ∧ s.config.active.holdLimit.toNat ≤ t := by
  unfold State.holdLimitReached
  cases s.transit.holdTimer <;> simp

theorem State.trigoutEnds_iff (s : State) :
    s.trigoutEnds = true ↔ ∃ t, s.trigger.trigout = some t ∧ 8 ≤ t := by
  unfold State.trigoutEnds Config.trigoutTicks
  cases s.trigger.trigout <;> simp

/-- The loss watch expires only while WATCHING with a last pulse. -/
theorem State.lossDue_iff (s : State) : s.lossDue = true ↔ s.clock.lossWatch = .watching ∧
    ∃ p, s.clock.lastPulse = some p ∧ 2 * s.config.active.period.toNat ≤ (s.clock.raw - p).toNat := by
  unfold State.lossDue State.syncPeriod State.elapsed
  cases s.clock.lossWatch <;> cases s.clock.lastPulse <;> simp

theorem State.stageTimedOut_iff (s : State) : s.stageTimedOut = true ↔ ∃ a t, s.trigger.state = .armed a ∧
    a.timer = some t ∧ (s.config.active.stage a.stage).timeout.toNat ≤ t := by
  unfold State.stageTimedOut
  cases h : s.trigger.state with
  | armed a => cases ha : a.timer <;> simp [ha]
  | disarmed => simp
  | capturing => simp

/-- An event that is taken where it is due acts there, and nowhere else. -/
theorem exec_whenDue {s : State} (hr : s.running) {c : Instr} {due : Bool} {k : State → State} {p : Prop}
    (hp : c ≠ .porRstn) (hq : c ≠ .resetEnd) (he : Instr.effect c s.beginEvent = s.beginEvent.whenDue due k)
    (hdue : due = true ↔ p) :
    (p → exec c s = .next (k s.beginEvent)) ∧ (¬p → exec c s = .next s.beginEvent) := by
  rw [exec_running hr hp hq, he]
  exact ⟨fun h => congrArg _ (State.whenDue_due (hdue.2 h) k),
    fun h => congrArg _ (State.whenDue_not (Bool.eq_false_iff.2 (mt hdue.1 h)) k)⟩

/-- Settles O17: each event acts where its test holds, and nowhere else. -/
theorem timedEventsAct : Obligations.TimedEventsAct := fun s hr => by
  obtain ⟨holdActs, holdNot⟩ := exec_whenDue hr (c := .holdExpiry) (by simp) (by simp) rfl s.holdLimitReached_iff
  obtain ⟨trigActs, trigNot⟩ := exec_whenDue hr (c := .trigoutPulseEnd) (by simp) (by simp) rfl s.trigoutEnds_iff
  obtain ⟨lossActs, lossNot⟩ := exec_whenDue hr (c := .lossWatchExpiry) (by simp) (by simp) rfl s.lossDue_iff
  obtain ⟨stageActs, stageNot⟩ := exec_whenDue hr (c := .stageTimeout) (by simp) (by simp) rfl s.stageTimedOut_iff
  refine ⟨fun t ht hl => holdActs ⟨t, ht, hl⟩, fun t ht hl => holdNot ?_, fun ht => holdNot ?_,
    fun t ht hl => trigActs ⟨t, ht, hl⟩, fun t ht hl => trigNot ?_, fun ht => trigNot ?_,
    fun p hw hp hl => lossActs ⟨hw, p, hp, hl⟩, fun p hw hp hl => lossNot ?_, fun h => lossNot ?_,
    fun a t ha ht hl => stageActs ⟨a, t, ha, ht, hl⟩, fun a t ha ht hl => stageNot ?_, fun a ha ht => stageNot ?_,
    fun h => stageNot ?_⟩
  · simpa [ht] using hl
  · simp [ht]
  · simpa [ht] using hl
  · simp [ht]
  · rintro ⟨-, q, hq, hle⟩
    obtain rfl : p = q := Option.some.inj (hp.symm.trans hq)
    omega
  · rcases h with h | h <;> simp [h]
  · simpa [ha, ht] using hl
  · simp [ha, ht]
  · rcases h with h | h <;> simp [h]

/-! ## A FULL_RESET (R28, R163) -/

theorem TagState.toLost_eq : TagState.toLost = fun g => match g with
    | .inUse _ => .lost
    | .lost => .lost
    | .free => .free := by
  funext g
  cases g <;> rfl

/-- A FULL_RESET that takes effect leaves no sticky condition, but QUIESCE_ABANDONED at the quiesce limit. -/
theorem State.fullResetEffect_eq (s : State) (abandoned : Bool) :
    s.fullResetEffect abandoned = s.afterFullReset (if abandoned then 0x2000 else 0) := by
  have sticky : (0 : Word) ||| (1 : Word) <<< Sticky.bit .quiesceAbandoned = 0x2000 := by decide
  unfold State.fullResetEffect State.afterFullReset SpillEngine.fullReset State.raise
  rw [TagState.toLost_eq]
  cases abandoned
  · rfl
  · simp only [ConditionBlock.reset, sticky, if_true]
    rfl

theorem State.quiesceDone_eq (s : State) : s.quiesceDone = (s.quiescing && decide (s.transit.table = [])) := by
  unfold State.quiesceDone
  cases s.transit.table <;> simp

/-- Settles O21: at the command and at QUIESCE_COMPLETE, by whether an entry is left. -/
theorem fullResetQuiesces : Obligations.FullResetQuiesces := fun s f => by
  have command : s.takesFrame f 1 →
      exec (.fullReset f) s = .next (s.beginEvent.startQuiesce.answer f [] .done) := fun h => by
    rw [exec_running h.1 (by simp) (by simp), Instr.effect, State.doneFrame_taken h]
  have started : s.beginEvent.startQuiesce =
      (let t := { s.beginEvent with config := { s.config with applyPending := false },
                                    transit := { s.transit with quiesceTimer := some 0 } }
       if s.transit.table = [] then t.fullResetEffect false else t) := rfl
  refine ⟨fun h ht => ?_, fun h ht => ?_, fun hr hq ht => ?_, fun hr hq ht => ?_⟩
  · rw [command h, started, if_neg ht]
    rfl
  · rw [command h, started, if_pos ht, State.fullResetEffect_eq]
    rfl
  · rw [exec_running hr (by simp) (by simp), Instr.effect, State.whenDue_due, State.fullResetEffect_eq]
    · rfl
    · rw [State.quiesceDone_eq]
      exact Bool.and_eq_true_iff.2 ⟨hq, decide_eq_true ht⟩
  · rw [exec_running hr (by simp) (by simp), Instr.effect, State.whenDue_not]
    rw [State.quiesceDone_eq]
    exact Bool.and_eq_false_iff.2 (.inr (decide_eq_false ht))

end Sys2Proof.Machine
end

section
/-! SUPPORT. Takes, responses and expiries: which entry each names, what a change of that entry is, and what a release leaves
once the event has been observed. -/

namespace Sys2Proof.Machine

-- One theorem at a time: each would otherwise hold a thread of its own.
set_option Elab.async false

/-! ## One entry of the table -/

/-- A change of the one entry of its number. -/
theorem State.updateEntry_middle {s : State} {e : Entry} {pre post : List Entry}
    (ht : s.transit.table = pre ++ e :: post) (hne : ∀ x ∈ pre ++ post, x.id ≠ e.id) (f : Entry → Entry) :
    s.updateEntry e.id f = { s with transit := { s.transit with table := pre ++ f e :: post } } := by
  unfold State.updateEntry
  rw [ht, map_update_middle f e pre post hne]

/-- The table, and the answers sent upstream, that a release leaves. -/
def State.withAnswers (s : State) (sent : List Entry × List Response) : State :=
  { s with transit := { s.transit with table := sent.1 }, outputs := { s.outputs with upstream := sent.2 } }

/-- A release after whatever leaves the channels and the table as they were, where nothing was sent before. -/
theorem State.release_of_keeps {s t : State} (h : s.KeepsChannels t) (ho : s.outputs.upstream = []) (k : Key) :
    t.release k = t.withAnswers (releaseKey k s.transit.table) := by
  unfold State.release State.withAnswers
  rw [h.table, h.outputs, ho]
  rfl

/-! ## The take (R3–R6, R20) -/

theorem snoopOn_none {r : Request} {word : Nat} (h : ∀ k < r.beats, r.address.toNat + 8 * k ≠ word)
    (w : SnoopWord) : snoopOn r w word = none := by
  simp [snoopOn, beatAt_eq_none_iff.2 h]

theorem snoopOn_some {r : Request} {word k : Nat} {b : Beat} (hk : k < r.beats)
    (hw : r.address.toNat + 8 * k = word) (hb : r.data[k]? = some b) (w : SnoopWord) :
    snoopOn r w word = some { word := w, beat := b, beats := r.beats } := by
  simp [snoopOn, beatAt_eq_some_iff.2 ⟨hw, hk⟩, hb]

theorem snoopBeat_read {p : ParamSet} {r : Request} (h : r.kind = .read) : snoopBeat p r = none := by
  simp [snoopBeat, h]

/-- A snoop beat of a WRITE: the command word's, else the consumer word's (R20). -/
theorem snoopBeat_write {p : ParamSet} {r : Request} (h : r.kind = .write) : snoopBeat p r =
    (if p.pageEnable then snoopOn r .command p.pageBase.toNat else none).or
      (if p.ringValid then snoopOn r .consumer (p.spillBase.toNat + 16) else none) := by
  simp [snoopBeat, h, ParamSet.consumerAddress]

/-- The command word gives no snoop beat where the page is disabled or no beat lies on the word. -/
theorem snoopOn_page_none {p : ParamSet} {r : Request}
    (h : ∀ k < r.beats, ¬(p.pageEnable = true ∧ r.address.toNat + 8 * k = p.pageBase.toNat)) :
    (if p.pageEnable then snoopOn r .command p.pageBase.toNat else none) = none := by
  split
  · exact snoopOn_none (fun k hk hw => h k hk ⟨‹_›, hw⟩) _
  · rfl

/-- The consumer word gives none where the ring is not valid or no beat lies on the word. -/
theorem snoopOn_ring_none {p : ParamSet} {r : Request}
    (h : ∀ k < r.beats, ¬(p.ringValid = true ∧ r.address.toNat + 8 * k = p.spillBase.toNat + 16)) :
    (if p.ringValid then snoopOn r .consumer (p.spillBase.toNat + 16) else none) = none := by
  split
  · exact snoopOn_none (fun k hk hw => h k hk ⟨‹_›, hw⟩) _
  · rfl

/-- A TAKE past every obstacle takes the presented request. -/
theorem State.takePresented_taken {s : State} {r : Request} (hu : s.transit.upstream = some r)
    (hroom : s.transit.table.length < 48) (hf : s.holdInForce = false) (hq : s.quiescing = false) :
    s.takePresented = s.takeRequest r := by
  unfold State.takePresented
  rw [hu]
  exact State.whenDue_due (s.canTake_iff.2 ⟨by simp [hu], hroom, hf, hq⟩) _

/-- With an obstacle, or no request, a TAKE takes nothing. -/
theorem State.takePresented_none {s : State} (h : s.transit.upstream = none ∨ 48 ≤ s.transit.table.length ∨
    s.holdInForce = true ∨ s.quiescing = true) : s.takePresented = s := by
  have hn : s.canTake = false := by
    rw [Bool.eq_false_iff, Ne, s.canTake_iff]
    rintro ⟨hu, hroom, hf, hq⟩
    rcases h with h | h | h | h
    · simp [h] at hu
    · omega
    · simp [h] at hf
    · simp [h] at hq
  unfold State.takePresented
  split
  · exact State.whenDue_not hn _
  · rfl

/-- An accepted request joins the table and the forward queue. -/
theorem State.takeRequest_accepted {s : State} {r : Request} (h : declineReason s.config.active r = none) :
    s.takeRequest r = s.takeAccepted r := by
  unfold State.takeRequest
  rw [h]

theorem State.takeRequest_declined {s : State} {r : Request} {d : DeclineReason}
    (h : declineReason s.config.active r = some d) : s.takeRequest r = s.takeDeclined r d := by
  unfold State.takeRequest
  rw [h]

/-- Settles O9: the take by its decline checks, the obstacles, and the snoop beat by the words a burst covers. -/
theorem takeActsOnPresentedRequest : Obligations.TakeActsOnPresentedRequest := by
  refine ⟨fun s r hr hu hroom hf hq => ?_, fun s hr h => ?_, fun p r => ⟨snoopBeat_read, fun h => ?_, ?_⟩⟩
  · rw [exec_running hr (by simp) (by simp)]
    have taken : Instr.effect .take s.beginEvent = s.beginEvent.takeRequest r :=
      State.takePresented_taken (s := s.beginEvent) hu hroom hf hq
    rw [taken]
    refine ⟨fun hd => congrArg _ (State.takeRequest_accepted (s := s.beginEvent) hd), fun d hd => ⟨?_, fun habs => ?_⟩⟩
    · rw [State.takeRequest_declined (s := s.beginEvent) hd]
      refine congrArg _ ((State.release_of_keeps (State.observe_keeps _ _ _).toChannels rfl (keyOf r)).trans ?_)
      cases d <;> rfl
    · have sent := releaseKey_ready (e := { s.newEntry r (.declined d) .none .notSent
        (.ready (faultContent r.kind r.beats)) none with id := s.transit.takes }) (pre := s.transit.table) (post := [])
        (by rw [List.append_nil]; exact habs) rfl rfl
      rw [List.append_nil] at sent
      exact sent
  · rw [exec_running hr (by simp) (by simp)]
    exact congrArg _ (State.takePresented_none (s := s.beginEvent) h)
  · cases hk : r.kind with
    | read => exact snoopBeat_read hk
    | write =>
      rw [snoopBeat_write hk, snoopOn_page_none fun k hkb => (h k hkb).1,
        snoopOn_ring_none fun k hkb => (h k hkb).2]
      rfl
  · refine fun k b hw hk hb => ⟨fun hc hn => ?_, fun hc hn => ?_⟩
    · rw [snoopBeat_write hw, snoopOn_ring_none hn, if_pos hc.1, snoopOn_some hk hc.2 hb]
      rfl
    · rw [snoopBeat_write hw, snoopOn_page_none hn, if_pos hc.1, snoopOn_some hk hc.2 hb]
      rfl

/-! ## Memory responses (R14–R18) -/

/-- A response of an initiator 0–14 goes to the transit unit (R13). -/
theorem State.takeResponse_memory {s : State} {r : Response} (h : r.initiator ≠ 15) :
    s.takeResponse r = s.memoryResponse r :=
  if_neg h

/-- With no abandoned count a response matches the oldest entry of its key that awaits one. -/
theorem State.memoryResponse_match {s : State} {r : Response} {e : Entry} {pre post : List Entry}
    (ha : abandonedOf s.transit.abandoned ⟨r.initiator, r.tag⟩ = 0) (ht : s.transit.table = pre ++ e :: post)
    (hfirst : ∀ x ∈ pre, x.key = e.key → x.downstream = .taken → x.path ≠ .issued ∧ x.path ≠ .cut)
    (hk : e.key = ⟨r.initiator, r.tag⟩) (hd : e.downstream = .taken) (hp : e.path = .issued ∨ e.path = .cut) :
    s.memoryResponse r = if e.path = .cut then s.cutAnswered e r else s.issuedAnswered e r := by
  have hw : e.awaits ⟨r.initiator, r.tag⟩ = true := by
    rcases hp with hp | hp <;> simp [Entry.awaits, hk, hd, hp]
  unfold State.memoryResponse
  simp only [ha, ne_eq, not_true, if_false, ht, find_awaits_middle (hk ▸ hfirst) hw]

/-- A response that matches an entry waiting for none is an orphan. -/
theorem State.memoryResponse_unmatched {s : State} {r : Response}
    (ha : abandonedOf s.transit.abandoned ⟨r.initiator, r.tag⟩ = 0)
    (h : ∀ e ∈ s.transit.table, e.key = ⟨r.initiator, r.tag⟩ → e.downstream = .taken →
      e.path ≠ .issued ∧ e.path ≠ .cut) : s.memoryResponse r = s.orphanResponse r := by
  have hn : s.transit.table.find? (·.awaits ⟨r.initiator, r.tag⟩) = none := by
    rw [List.find?_eq_none]
    intro e he hw
    simp only [Entry.awaits, Bool.and_eq_true, Bool.or_eq_true, beq_iff_eq] at hw
    obtain ⟨⟨hk, hd⟩, hp⟩ := hw
    obtain ⟨hi, hc⟩ := h e he hk hd
    exact hp.elim hi hc
  unfold State.memoryResponse
  simp only [ha, ne_eq, not_true, if_false, hn]

/-- An ISSUED entry's answer (R14, R15), whatever its observation and its offer lead to. -/
theorem State.issuedAnswered_eq {s : State} {r : Response} {e : Entry} {pre post : List Entry}
    (ht : s.transit.table = pre ++ e :: post) (hne : ∀ x ∈ pre ++ post, x.id ≠ e.id)
    (ho : s.outputs.upstream = []) :
    s.issuedAnswered e r =
      (let e' : Entry := { e with answer := .ready (e.answerContent r), path := .none }
       (({ s with transit := { s.transit with table := pre ++ e' :: post } } : State).observeAndOffer
         (e.finishedBody r.status (s.latency e.takeTime)) (e.observedBeat r)
         (if e.kind = .write ∧ r.status = .okay then e.snoop else none) e.key.initiator).withAnswers
         (releaseKey e.key (pre ++ e' :: post))) := by
  unfold State.issuedAnswered
  rw [State.updateEntry_middle ht hne]
  exact State.release_of_keeps (State.observeAndOffer_keeps _ _ _ _ _) (by exact ho) _

/-- A CUT entry's late response (R16). -/
theorem State.cutAnswered_eq {s : State} {r : Response} {e : Entry} {pre post : List Entry}
    (ht : s.transit.table = pre ++ e :: post) (hne : ∀ x ∈ pre ++ post, x.id ≠ e.id)
    (ho : s.outputs.upstream = []) :
    s.cutAnswered e r =
      (let e' : Entry := { e with path := .none }
       (((({ s with transit := { s.transit with table := pre ++ e' :: post } } : State).raise .late).count
         .late).observe (e.lateBody r.status (s.latency e.takeTime)) none).withAnswers
         (releaseKey e.key (pre ++ e' :: post))) := by
  unfold State.cutAnswered
  rw [State.updateEntry_middle ht hne]
  exact State.release_of_keeps (State.observe_keeps _ _ _).toChannels (by exact ho) _

/-- With an offer the observation and the offer come in either order, a due apply between them (log entries 7, 30). -/
theorem State.observeAndOffer_some (s : State) (b : ObsBody) (d : Option Beat) (sn : Snoop) (i : Initiator) :
    s.observeAndOffer b d (some sn) i = ((((s.spendChoices 1).observe b d).takeDueApply).snoopOffer sn i) ∨
      s.observeAndOffer b d (some sn) i = ((((s.spendChoices 1).snoopOffer sn i).takeDueApply).observe b d) := by
  unfold State.observeAndOffer
  dsimp only
  split
  · exact .inl rfl
  · exact .inr rfl

/-- Settles O13: the response matches the entry, the entry changes by its path, and its key's answers leave. -/
theorem matchedResponseActs : Obligations.MatchedResponseActs := by
  intro s r e pre post hr h15 ha ht hne hfirst hk hd
  have answered : e.path = .issued ∨ e.path = .cut → exec (.dPortResponse r) s =
      .next (if e.path = .cut then s.beginEvent.cutAnswered e r else s.beginEvent.issuedAnswered e r) := fun hp => by
    rw [exec_running hr (by simp) (by simp)]
    exact congrArg _ ((State.takeResponse_memory h15).trans
      (State.memoryResponse_match (s := s.beginEvent) ha ht hfirst hk hd hp))
  refine ⟨fun hp => ?_, fun hp => ?_⟩
  · intro e' t body beat
    have issued := answered (.inl hp)
    have hbody : e.finishedBody r.status (s.beginEvent.latency e.takeTime) = body := by
      simp only [Entry.finishedBody, hk]
      rfl
    have hinit : e.key.initiator = r.initiator := by rw [hk]
    rw [if_neg (by simp [hp]), State.issuedAnswered_eq (s := s.beginEvent) ht hne rfl, hbody, hinit] at issued
    have left : ∀ {o : Option Snoop} {u : State}, (if e.kind = .write ∧ r.status = .okay then e.snoop else none) = o →
        t.observeAndOffer body beat o r.initiator = u →
        exec (.dPortResponse r) s = .next (u.withAnswers (releaseKey e.key (pre ++ e' :: post))) := fun ho hu => by
      subst ho hu
      exact issued
    refine ⟨fun hn => left (o := none) ?_ rfl, fun sn hw hs hsn => ?_, fun habs => ?_⟩
    · rcases hn with hn | hn | hn <;> simp [hn]
    · have offered : (if e.kind = .write ∧ r.status = .okay then e.snoop else none) = some sn := by
        rw [if_pos ⟨hw, hs⟩, hsn]
      exact (State.observeAndOffer_some t body beat sn r.initiator).imp (left offered) (left offered)
    · have sent := releaseKey_ready (e := e') habs rfl rfl
      rw [Entry.response, show e'.key = _ from hk] at sent
      rw [hk]
      exact sent
  · intro e'
    have late := answered (.inr hp)
    have hbody : e.lateBody r.status (s.beginEvent.latency e.takeTime) =
        { kind := .late, access := some e.kind, initiator := some r.initiator, tag := some r.tag,
          address := some e.address, beats := some e.beats, status := some r.status,
          latency := some (min (s.clock.raw - e.takeTime).toNat (2 ^ 24 - 1)) } := by
      simp only [Entry.lateBody, hk]
      rfl
    rw [if_pos hp, State.cutAnswered_eq (s := s.beginEvent) ht hne rfl, hbody] at late
    exact ⟨late, fun c hc habs => releaseKey_sent (e := e') habs rfl hc⟩

/-! ## Orphans (R17) -/

/-- With the unit DISARMED and no record open, an observation is numbered, tested and placed in the ring, unclaimed. -/
theorem State.observe_disarmed {s : State} {b : ObsBody} (beat : Option Beat) (hn : ¬s.makesNone b)
    (ho : s.store.openRecord = none) (ht : s.trigger.state = .disarmed) : s.observe b beat =
      (s.numbered (s.observationOf b beat)).enterRing (s.observationOf b beat) false := by
  have offered : (s.numbered (s.observationOf b beat)).offer (s.observationOf b beat) =
      ⟨s.numbered (s.observationOf b beat), false, false⟩ := by
    unfold State.offer
    rw [State.numbered_store, ho]
  rw [State.observe_path beat hn]
  dsimp only
  rw [offered]
  dsimp only
  rw [if_neg (by simp), State.evaluateTrigger, State.enterRing_trigger, State.numbered_trigger, ht]

/-- Settles O15: no entry awaits the response, or an abandoned count does; and what its observation is in either mode. -/
theorem orphanResponseIsReported : Obligations.OrphanResponseIsReported := by
  intro s r hr h15
  have taken : exec (.dPortResponse r) s = .next (s.beginEvent.memoryResponse r) := by
    rw [exec_running hr (by simp) (by simp)]
    exact congrArg _ (State.takeResponse_memory h15)
  refine ⟨fun ha => ?_, fun ha h => ?_, fun hm => ?_, fun hm ht ho => ?_, fun l n k' => ?_, rfl⟩
  · rw [taken]
    exact congrArg _ (if_pos ha)
  · rw [taken]
    exact congrArg _ (State.memoryResponse_unmatched (s := s.beginEvent) ha h)
  · exact State.observe_pass (by exact hm) _ _
  · have hn : ¬((s.beginEvent.raise .orphan).count .orphan).makesNone (orphanBody r) := by
      simp [State.makesNone, orphanBody, hm]
    refine (State.observe_disarmed none hn ho ht).trans ?_
    unfold State.observationOf
    simp only [ite_self]
    rfl
  · split
    · rename_i hk
      rw [hk, abandonedOf_setAbandoned_same]
    · exact abandonedOf_setAbandoned_other ‹_› l n

/-! ## Overdue expiries (R22–R25) -/

/-- An entry's place in its key's list is the number of the key's entries before it (R7). -/
theorem State.entryAt_middle {s : State} {e : Entry} {pre post : List Entry}
    (ht : s.transit.table = pre ++ e :: post) : s.entryAt e.key (pre.countP fun x => x.key == e.key) = some e := by
  unfold State.entryAt
  rw [ht, List.filter_append, List.countP_eq_length_filter, List.getElem?_append_right (Nat.le_refl _)]
  simp

/-- A place past the key's entries holds none. -/
theorem State.entryAt_none {s : State} {k : Key} {age : Nat}
    (h : (s.transit.table.countP fun x => x.key == k) ≤ age) : s.entryAt k age = none := by
  unfold State.entryAt
  rw [List.getElem?_eq_none_iff, ← List.countP_eq_length_filter]
  exact h

theorem State.expiryDue_iff (s : State) (e : Entry) : s.expiryDue e = true ↔
    (∃ d, e.deadline = some d ∧ (d - e.takeTime).toNat ≤ (s.clock.raw - e.takeTime).toNat) ∧ e.answer = .pending ∧
      e.overdueSeen = false := by
  unfold State.expiryDue State.elapsed
  cases e.deadline with
  | none => simp
  | some d => simp only [Bool.and_eq_true, decide_eq_true_eq, beq_iff_eq, Bool.not_eq_true', Option.some.injEq,
      exists_eq_left', and_assoc]

/-- An expiry under CUT of a granted request (R24). -/
theorem State.overdueCut_eq {s : State} {e : Entry} {pre post : List Entry}
    (ht : s.transit.table = pre ++ e :: post) (hne : ∀ x ∈ pre ++ post, x.id ≠ e.id)
    (ho : s.outputs.upstream = []) :
    s.overdueCut e =
      (let e' : Entry := { e with answer := .ready (faultContent e.kind e.beats), path := .cut }
       ((({ s with transit := { s.transit with table := pre ++ e' :: post } } : State).reportOverdue).observe
         (e.overdueBody (some .fault) false (s.latency e.takeTime)) none).withAnswers
         (releaseKey e.key (pre ++ e' :: post))) := by
  unfold State.overdueCut
  rw [State.updateEntry_middle ht hne]
  exact State.release_of_keeps (State.observe_keeps _ _ _).toChannels (by exact ho) _

/-- An expiry under CUT of a request still waiting (R25). -/
theorem State.overdueWithdraw_eq {s : State} {e : Entry} {pre post : List Entry}
    (ht : s.transit.table = pre ++ e :: post) (hne : ∀ x ∈ pre ++ post, x.id ≠ e.id)
    (ho : s.outputs.upstream = []) :
    s.overdueWithdraw e =
      (let e' : Entry :=
         { e with answer := .ready (faultContent e.kind e.beats), path := .none, downstream := .notSent }
       ((({ s with transit := { s.transit with
           table := pre ++ e' :: post
           forwardQueue := s.transit.forwardQueue.filter fun q => q.id != e.id } } : State).reportOverdue).observe
         (e.overdueBody (some .fault) true (s.latency e.takeTime)) none).withAnswers
         (releaseKey e.key (pre ++ e' :: post))) := by
  unfold State.overdueWithdraw
  rw [State.updateEntry_middle ht hne]
  exact State.release_of_keeps (State.observe_keeps _ _ _).toChannels (by exact ho) _

/-- Settles O16: the entry at its place, its test, and the three outcomes. -/
theorem overdueExpiryActs : Obligations.OverdueExpiryActs := by
  refine fun s hr => ⟨fun e pre post ht hne => ?_, fun k age hage => ?_⟩
  · have expiry : exec (.overdueExpiry e.key.initiator e.key.tag (pre.countP fun x => x.key == e.key)) s =
        .next (s.beginEvent.whenDue (s.beginEvent.expiryDue e) fun t => t.expireEntry e) := by
      rw [exec_running hr (by simp) (by simp)]
      have hat : s.beginEvent.entryAt e.key (pre.countP fun x => x.key == e.key) = some e := State.entryAt_middle ht
      simp only [Instr.effect, State.expireAt, hat]
    refine ⟨fun hreached hp hseen => ?_, fun h => ?_⟩
    · rw [State.whenDue_due ((s.beginEvent.expiryDue_iff e).2 ⟨hreached, hp, hseen⟩)] at expiry
      rw [expiry]
      unfold State.expireEntry
      refine ⟨fun hact => ?_, fun hact hw => ?_, fun hact hw => ?_⟩ <;>
        rw [show s.beginEvent.config.active.overdueAction? = _ from hact] <;> dsimp only
      · unfold State.overdueReport
        rw [State.updateEntry_middle (s := s.beginEvent) ht hne]
        rfl
      · rw [if_pos hw, State.overdueWithdraw_eq (s := s.beginEvent) ht hne rfl]
        rfl
      · rw [if_neg hw, State.overdueCut_eq (s := s.beginEvent) ht hne rfl]
        rfl
    · have hn : s.beginEvent.expiryDue e = false := by
        rw [Bool.eq_false_iff, Ne, State.expiryDue_iff]
        rintro ⟨hreached, hp, hseen⟩
        rcases h with h | h | h
        · exact h hp
        · simp [hseen] at h
        · exact h hreached
      rw [expiry, State.whenDue_not hn]
  · rw [exec_running hr (by simp) (by simp)]
    have hat : s.beginEvent.entryAt ⟨k.initiator, k.tag⟩ age = none := State.entryAt_none hage
    simp only [Instr.effect, State.expireAt, hat]

end Sys2Proof.Machine
end

section
/-! SUPPORT. An abandonment (R29): the order of keys is free, but each key's answers go out once and in take order, and its
count grows by its entries whose memory response is still due. -/

namespace Sys2Proof.Machine

-- One theorem at a time: each would otherwise hold a thread of its own.
set_option Elab.async false

/-! ## Free orders (log entry 8) -/

theorem freePick_mem {α : Type} {k : Nat} {xs : List α} {x : α} (h : freePick k xs = some x) : x ∈ xs := by
  unfold freePick at h
  split at h
  · exact List.mem_of_head? h
  · exact List.mem_of_getElem? h

theorem freePick_eq_none {α : Type} {k : Nat} {xs : List α} (h : freePick k xs = none) : xs = [] := by
  unfold freePick at h
  split at h
  · exact List.head?_eq_none_iff.1 h
  · have := Nat.mod_lt (Config.pick k) (y := xs.length) (by omega)
    simp at h
    omega

/-- A free order is an order of the whole list. -/
theorem freeOrder_perm {α : Type} [DecidableEq α] : ∀ (n k : Nat) (xs : List α), xs.length ≤ n →
    (freeOrder n k xs).Perm xs
  | 0, _, xs, h => by
    rw [List.eq_nil_of_length_eq_zero (Nat.le_zero.1 h)]
    exact .nil
  | n + 1, k, xs, h => by
    unfold freeOrder
    split
    · rename_i hp
      rw [freePick_eq_none hp]
    · rename_i x hp
      have hx := freePick_mem hp
      have hlen : (xs.erase x).length ≤ n := by
        rw [List.length_erase_of_mem hx]
        omega
      exact ((freeOrder_perm n (k + 1) (xs.erase x) hlen).cons x).trans (List.perm_cons_erase hx).symm

theorem nodup_eraseDups {α : Type} [DecidableEq α] (l : List α) : l.eraseDups.Nodup := by
  cases l with
  | nil => simp
  | cons a as =>
    have : (as.filter fun b => !b == a).length < as.length + 1 := Nat.lt_succ_of_le (List.length_filter_le _ as)
    rw [List.eraseDups_cons, List.nodup_cons]
    exact ⟨by simp [List.mem_eraseDups], nodup_eraseDups _⟩
termination_by l.length

/-- In a list without repetition one element alone contributes. -/
theorem flatMap_only {α β : Type} [DecidableEq α] (x : α) (g : List β) : ∀ {l : List α}, l.Nodup →
    (l.flatMap fun a => if a = x then g else []) = if x ∈ l then g else []
  | [], _ => rfl
  | a :: as, h => by
    obtain ⟨ha, has⟩ := List.nodup_cons.1 h
    rw [List.flatMap_cons, flatMap_only x g has]
    by_cases hx : a = x
    · subst hx
      simp [ha]
    · simp [hx, Ne.symm hx]

/-! ## The answers -/

/-- The answers an abandonment sends for one key, in take order. -/
def keyAnswers (table : List Entry) (k : Key) : List Response :=
  (table.filter fun e => e.key == k).filterMap Entry.abandonedAnswer

theorem abandonedAnswer_key {e : Entry} {r : Response} (h : e.abandonedAnswer = some r) :
    e.key = ⟨r.initiator, r.tag⟩ := by
  unfold Entry.abandonedAnswer at h
  split at h
  · cases h
    rfl
  · cases h
    rfl
  · cases h

/-- Of one key's answers, those of a key are all of them or none. -/
theorem keyAnswers_filter (table : List Entry) (j k : Key) :
    ((keyAnswers table j).filter fun r => r.initiator == k.initiator && r.tag == k.tag) =
      if j = k then keyAnswers table k else [] := by
  have hkey : ∀ r ∈ keyAnswers table j, j = ⟨r.initiator, r.tag⟩ := fun r hr => by
    obtain ⟨e, he, her⟩ := List.mem_filterMap.1 hr
    rw [← abandonedAnswer_key her]
    exact (beq_iff_eq.1 (List.mem_filter.1 he).2).symm
  split
  · rename_i hj
    subst hj
    refine List.filter_eq_self.2 fun r hr => ?_
    rw [hkey r hr]
    simp
  · rename_i hj
    refine List.filter_eq_nil_iff.2 fun r hr hrk => hj ?_
    rw [hkey r hr]
    simp only [Bool.and_eq_true, beq_iff_eq] at hrk
    rw [hrk.1, hrk.2]

/-- Whatever the order of the keys, a key's answers are its own, in take order. -/
theorem abandonedAnswers_filter (n : Nat) (table : List Entry) (k : Key) :
    ((abandonedAnswers n table).filter fun r => r.initiator == k.initiator && r.tag == k.tag) =
      keyAnswers table k := by
  have hperm := freeOrder_perm _ n (table.map (·.key)).eraseDups (Nat.le_refl _)
  have hmem : k ∈ freeOrder (table.map (·.key)).eraseDups.length n (table.map (·.key)).eraseDups ↔
      ∃ e ∈ table, e.key = k := by
    rw [hperm.mem_iff, List.mem_eraseDups, List.mem_map]
  unfold abandonedAnswers
  simp only [List.filter_flatMap]
  refine (congrArg (List.flatMap · _) (funext fun j => keyAnswers_filter table j k)).trans ?_
  rw [flatMap_only k _ (hperm.nodup_iff.2 (nodup_eraseDups _))]
  split
  · rfl
  · rename_i hk
    rw [hmem] at hk
    have : (table.filter fun e => e.key == k) = [] :=
      List.filter_eq_nil_iff.2 fun e he hek => hk ⟨e, he, beq_iff_eq.1 hek⟩
    rw [keyAnswers, this]
    rfl

/-! ## The counts -/

/-- One abandonment more is one more for its key, at most 255, and nothing for another. -/
theorem abandonedOf_addAbandoned (l : List AbandonedCount) (j k : Key) :
    abandonedOf (addAbandoned l j) k = if j = k then min (abandonedOf l k + 1) 255 else abandonedOf l k := by
  unfold addAbandoned
  split
  · rename_i hj
    subst hj
    exact abandonedOf_setAbandoned_same _ _ _
  · rename_i hj
    exact abandonedOf_setAbandoned_other (Ne.symm hj) _ _

theorem abandonedOf_foldl (k : Key) : ∀ (es : List Entry) (l : List AbandonedCount), abandonedOf l k ≤ 255 →
    abandonedOf (es.foldl (fun l e => addAbandoned l e.key) l) k =
      min 255 (abandonedOf l k + es.countP fun e => e.key == k)
  | [], l, h => by simp [h]
  | e :: es, l, h => by
    have hstep := abandonedOf_addAbandoned l e.key k
    have hle : abandonedOf (addAbandoned l e.key) k ≤ 255 := by
      rw [hstep]
      split <;> omega
    rw [List.foldl_cons, abandonedOf_foldl k es _ hle, hstep, List.countP_cons]
    by_cases hk : e.key = k
    · simp only [hk, if_true, beq_self_eq_true]
      omega
    · simp [hk]

/-- A key's count grows by its entries whose memory response is still due. -/
theorem abandonedOf_abandonedCounts (table : List Entry) {l : List AbandonedCount} {k : Key}
    (h : abandonedOf l k ≤ 255) : abandonedOf (abandonedCounts table l) k =
      min 255 (abandonedOf l k + table.countP fun e => e.key == k && e.responseDue) := by
  unfold abandonedCounts
  rw [abandonedOf_foldl k _ _ h, List.countP_filter]

theorem State.abandonDue_iff (s : State) : s.abandonDue = true ↔ s.transit.table ≠ [] ∧
    ∃ n, s.transit.quiesceTimer = some n ∧ s.config.active.quiesceLimit.toNat ≤ n := by
  unfold State.abandonDue State.quiesceLimitReached
  cases s.transit.quiesceTimer <;> simp [and_comm]

/-- Settles O22: the state is FULL_RESET's beside the answers, the counts and the choices, and those are pinned key by key. -/
theorem quiesceAbandonAnswersEveryEntry : Obligations.QuiesceAbandonAnswersEveryEntry := by
  refine fun s n hr hq hl ht => ⟨abandonedAnswers s.freeIndex s.transit.table,
    abandonedCounts s.transit.table s.transit.abandoned, s.transit.table.length, ?_, fun key => ?_, fun key hle => ?_⟩
  · have acts := (exec_whenDue hr (c := .quiesceAbandon) (k := fun t => t.abandonTable.fullResetEffect true) (by simp)
      (by simp) rfl s.abandonDue_iff).1 ⟨ht, n, hq, hl⟩
    rw [acts, State.fullResetEffect_eq]
    rfl
  · rw [abandonedAnswers_filter, keyAnswers]
    refine List.filterMap_congr fun e _ => ?_
    unfold Entry.abandonedAnswer
    cases e.answer <;> rfl
  · exact abandonedOf_abandonedCounts s.transit.table hle

end Sys2Proof.Machine
end

section
/-! SUPPORT. Snoop offers: what an offer of the consumer word and of the command word does, case by case, and how an OKAY
write that covers one of them is answered in PASS mode. -/

namespace Sys2Proof.Machine

-- One theorem at a time: each would otherwise hold a thread of its own.
set_option Elab.async false

/-! ## The consumer word (R126, R127) -/

/-- The three tests of R127. -/
theorem State.consumerAllowed_iff (s : State) (v : Nat) : s.consumerAllowed v = true ↔
    v % 8 = 0 ∧ v < s.config.active.area ∧
      (v + s.config.active.area - s.spill.consumer) % s.config.active.area ≤
        (s.spill.producer + s.config.active.area - s.spill.consumer) % s.config.active.area := by
  unfold State.consumerAllowed forwardDistance
  simp only [Bool.and_eq_true, beq_iff_eq, decide_eq_true_eq, and_assoc]

theorem State.snoopOffer_consumer {s : State} {sn : Snoop} (hw : sn.word = .consumer) (i : Initiator) :
    s.snoopOffer sn i = s.consumerOffer sn := by
  unfold State.snoopOffer
  rw [hw]

theorem State.consumerOffer_off {s : State} (sn : Snoop) (h : s.spill.engine = .off) : s.consumerOffer sn = s :=
  if_pos h

theorem State.consumerOffer_malformed {s : State} {sn : Snoop} (h : s.spill.engine ≠ .off)
    (hm : sn.beats ≠ 1 ∨ sn.beat.mask ≠ 0xFF) : s.consumerOffer sn = s.count .consumerMalformed :=
  (if_neg h).trans (if_neg (by rw [not_and_or]; exact hm))

/-- A well-formed offset is judged by R127. -/
theorem State.consumerOffer_judged {s : State} {sn : Snoop} (h : s.spill.engine ≠ .off) (hb : sn.beats = 1)
    (hm : sn.beat.mask = 0xFF) : s.consumerOffer sn = s.judgeConsumer (sn.beat.value.extractLsb' 0 32).toNat :=
  (if_neg h).trans (if_pos ⟨hb, hm⟩)

theorem State.judgeConsumer_rejected {s : State} {v : Nat} (h : ¬s.consumerAllowed v = true) :
    s.judgeConsumer v = s.raise .badConsumer :=
  if_neg h

/-- An accepted offset, where no head waits for space. -/
theorem State.judgeConsumer_taken {s : State} {v : Nat} (h : s.consumerAllowed v = true)
    (he : s.spill.engine ≠ .waitSpace) : s.judgeConsumer v = { s with spill := { s.spill with consumer := v } } :=
  (if_pos h).trans (if_neg he)

/-- An accepted offset in WAIT_SPACE: the head is placed again (R116). -/
theorem State.judgeConsumer_places {s : State} {v : Nat} (h : s.consumerAllowed v = true)
    (he : s.spill.engine = .waitSpace) {d : DirectoryEntry} {rest : List DirectoryEntry}
    (hd : s.store.directory = d :: rest) :
    s.judgeConsumer v = ({ s with spill := { s.spill with consumer := v } } : State).headPlaced d rest :=
  (if_pos h).trans ((if_pos he).trans (State.placeHead_eq hd))

/-! ## The command word (R167–R170) -/

theorem State.snoopOffer_command {s : State} {sn : Snoop} (hw : sn.word = .command) (i : Initiator) :
    s.snoopOffer sn i = s.commandOffer sn i := by
  unfold State.snoopOffer
  rw [hw]

theorem State.commandOffer_disabled {s : State} (sn : Snoop) (i : Initiator)
    (h : s.config.active.pageEnable = false) : s.commandOffer sn i = s :=
  if_pos h

theorem State.commandOffer_unpermitted {s : State} (sn : Snoop) {i : Initiator}
    (h : s.config.active.pageEnable = true) (hp : s.config.active.permit.getLsbD i.toNat = false) :
    s.commandOffer sn i = s.count .controlUnpermitted :=
  (if_neg (by simp [h])).trans (if_pos hp)

theorem State.commandOffer_malformed {s : State} {sn : Snoop} {i : Initiator}
    (h : s.config.active.pageEnable = true) (hp : s.config.active.permit.getLsbD i.toNat = true)
    (hm : sn.beat.mask ≠ 0xFF) : s.commandOffer sn i = s.count .controlMalformed :=
  (if_neg (by simp [h])).trans ((if_neg (by rw [hp]; decide)).trans (if_pos hm))

/-- An offer that passes the tests of R167 is decoded. -/
theorem State.commandOffer_decoded {s : State} {sn : Snoop} {i : Initiator}
    (h : s.config.active.pageEnable = true) (hp : s.config.active.permit.getLsbD i.toNat = true)
    (hm : sn.beat.mask = 0xFF) : s.commandOffer sn i = s.decodeCommand sn.beat.value :=
  (if_neg (by simp [h])).trans ((if_neg (by rw [hp]; decide)).trans (if_neg (not_not.2 hm)))

theorem commandCode_eq_iff (v : Cell) (b : Byte) : commandCode v = b ↔ (v.extractLsb' 0 8).toNat = b.toNat :=
  BitVec.toNat_inj.symm

section decode

variable {s : State} {v : Cell}

theorem State.decodeCommand_arm (h : (v.extractLsb' 0 8).toNat = 1) :
    s.decodeCommand v = s.armUnit.1.count .controlInterpreted :=
  if_pos ((commandCode_eq_iff v 1).2 h)

theorem State.decodeCommand_disarm (h : (v.extractLsb' 0 8).toNat = 2) :
    s.decodeCommand v = s.disarmUnit.count .controlInterpreted := by
  have hc : commandCode v = 2 := (commandCode_eq_iff v 2).2 h
  unfold State.decodeCommand
  rw [hc]
  rfl

theorem State.decodeCommand_force (h : (v.extractLsb' 0 8).toNat = 3) :
    s.decodeCommand v = (s.forceUnit .forceWord).1.count .controlInterpreted := by
  have hc : commandCode v = 3 := (commandCode_eq_iff v 3).2 h
  unfold State.decodeCommand
  rw [hc]
  rfl

theorem State.decodeCommand_mark (h : (v.extractLsb' 0 8).toNat = 4) : s.decodeCommand v =
    (s.observe { kind := .mark, cause := some .software, markValue := some (v.extractLsb' 32 32) } none).count
      .controlInterpreted := by
  have hc : commandCode v = 4 := (commandCode_eq_iff v 4).2 h
  unfold State.decodeCommand
  rw [hc]
  rfl

theorem State.decodeCommand_clear (h : (v.extractLsb' 0 8).toNat = 5) :
    s.decodeCommand v = s.clearCounters.count .controlInterpreted := by
  have hc : commandCode v = 5 := (commandCode_eq_iff v 5).2 h
  unfold State.decodeCommand
  rw [hc]
  rfl

/-- A code that names no command sets BAD_CONTROL (R170). -/
theorem State.decodeCommand_unknown (h : (v.extractLsb' 0 8).toNat = 0 ∨ 5 < (v.extractLsb' 0 8).toNat) :
    s.decodeCommand v = s.raise .badControl := by
  have hne : ∀ b : Byte, 1 ≤ b.toNat → b.toNat ≤ 5 → commandCode v ≠ b := fun b h1 h5 hb => by
    have := (commandCode_eq_iff v b).1 hb
    omega
  unfold State.decodeCommand
  simp only [hne 1 (by decide) (by decide), hne 2 (by decide) (by decide), hne 3 (by decide) (by decide),
    hne 4 (by decide) (by decide), hne 5 (by decide) (by decide), if_false]

end decode

theorem State.armUnit_arms {s : State} (h : s.trigger.state = .disarmed)
    (hm : s.config.active.mode? = some .observe) :
    s.armUnit.1 = { s with trigger := { s.trigger with state := stageZero } } := by
  unfold State.armUnit
  rw [h]
  dsimp only
  rw [if_pos hm]
  rfl

/-- ARM changes nothing in another state or outside OBSERVE mode (R77). -/
theorem State.armUnit_stays {s : State}
    (h : s.trigger.state ≠ .disarmed ∨ s.config.active.mode? ≠ some .observe) : s.armUnit.1 = s := by
  unfold State.armUnit
  split
  · rename_i ht
    rw [if_neg (h.resolve_left fun hn => hn ht)]
  · rfl
  · rfl

theorem State.disarmUnit_disarmed {s : State} (h : s.trigger.state = .disarmed) : s.disarmUnit = s := by
  unfold State.disarmUnit
  rw [h]

theorem State.disarmUnit_armed {s : State} {a : ArmedStage} (h : s.trigger.state = .armed a) :
    s.disarmUnit = s.setTrigger .disarmed := by
  unfold State.disarmUnit
  rw [h]

/-- DISARM closes an open record as aborted (R78, R98). -/
theorem State.disarmUnit_capturing {s : State} {r : OpenRecord} (h : s.trigger.state = .capturing)
    (hr : s.store.openRecord = some r) :
    s.disarmUnit = s.recordClosed { r with aborted := true } .disarmed := by
  unfold State.disarmUnit State.abortRecord
  rw [h, hr]
  exact State.closeRecord_eq _ _

theorem State.forceUnit_disarmed {s : State} (c : TriggerCause) (h : s.trigger.state = .disarmed) :
    (s.forceUnit c).1 = s := by
  unfold State.forceUnit
  rw [h]

theorem State.forceUnit_armed {s : State} {a : ArmedStage} (c : TriggerCause) (h : s.trigger.state = .armed a) :
    (s.forceUnit c).1 = s.fire c false := by
  unfold State.forceUnit
  rw [h]

theorem State.forceUnit_capturing {s : State} {r : OpenRecord} (c : TriggerCause)
    (h : s.trigger.state = .capturing) (hr : s.store.openRecord = some r) :
    (s.forceUnit c).1 = ({ s with store := { s.store with
      openRecord := some (r.retriggered s.config.active) } } : State).count .nested := by
  unfold State.forceUnit State.retrigger
  rw [h, hr]
  rfl

/-- In PASS mode, DISARMED, the four commands to the unit and the marks are counted and change nothing else. -/
theorem State.decodeCommand_idle {s : State} {v : Cell} (hm : s.config.active.mode? = some .pass)
    (ht : s.trigger.state = .disarmed)
    (h : 1 ≤ (v.extractLsb' 0 8).toNat ∧ (v.extractLsb' 0 8).toNat ≤ 4) :
    s.decodeCommand v = s.count .controlInterpreted := by
  have hcode : (v.extractLsb' 0 8).toNat = 1 ∨ (v.extractLsb' 0 8).toNat = 2 ∨ (v.extractLsb' 0 8).toNat = 3 ∨
      (v.extractLsb' 0 8).toNat = 4 := by omega
  rcases hcode with hc | hc | hc | hc
  · rw [State.decodeCommand_arm hc, State.armUnit_stays (.inr (by simp [hm]))]
  · rw [State.decodeCommand_disarm hc, State.disarmUnit_disarmed ht]
  · rw [State.decodeCommand_force hc, State.forceUnit_disarmed _ ht]
  · rw [State.decodeCommand_mark hc, State.observe_pass hm]

/-! ## An OKAY write of a recognised word, in PASS mode -/

/-- In PASS mode, where neither the response nor its offer makes an apply due, the offer is all that happens, in either
order. -/
theorem State.offer_pass {s : State} {sn : Snoop} {i : Initiator} (hm : s.config.active.mode? = some .pass)
    (hd : s.applyDue = false) (ho : (s.snoopOffer sn i).applyDue = false) (b : ObsBody) (d : Option Beat) :
    ((s.observe b d).takeDueApply).snoopOffer sn i = s.snoopOffer sn i ∧
      ((s.snoopOffer sn i).takeDueApply).observe b d = s.snoopOffer sn i := by
  have hmo : (s.snoopOffer sn i).config.active.mode? = some .pass := by
    rw [(State.snoopOffer_keeps s sn i).config]
    exact hm
  constructor
  · rw [State.observe_pass hm, State.takeDueApply_of_not_due hd]
  · rw [State.takeDueApply_of_not_due ho, State.observe_pass hmo]

theorem State.placeHead_trigger (s : State) : s.placeHead.trigger = s.trigger := by
  cases hd : s.store.directory with
  | nil => simp [State.placeHead, hd, State.restEngine]
  | cons d rest =>
    rw [State.placeHead_eq hd]
    unfold State.headPlaced
    dsimp only
    split <;> rfl

/-- An offer of the consumer word makes no apply due: only an engine that waits for space, which is no obstacle, moves
on. -/
theorem State.consumerOffer_applyDue {s : State} (sn : Snoop) (h : s.applyDue = false) :
    (s.consumerOffer sn).applyDue = false := by
  have waiting : s.spill.engine = .waitSpace → ∀ t : State, t.config = s.config → t.trigger = s.trigger →
      t.applyDue = false := fun he t hc ht => by
    have hw : s.applyWaitsOnSpill = false := by simp [State.applyWaitsOnSpill, he]
    have hn : (s.config.applyPending && !s.capturing) = false := by simpa [State.applyDue, hw] using h
    unfold State.applyDue State.capturing
    rw [hc, ht]
    unfold State.capturing at hn
    rw [hn, Bool.false_and]
  unfold State.consumerOffer State.judgeConsumer
  repeat' split
  · exact h
  · dsimp only
    split
    · rename_i he
      exact waiting he _ (State.placeHead_keeps _).config (State.placeHead_trigger _)
    · exact h
  · exact h
  · exact h

/-- `r` is the OKAY response, in PASS mode, to the WRITE of the entry `e`, the one entry of its key, with snoop beat `sn`. -/
structure State.AnswersWrite (s : State) (r : Response) (e : Entry) (sn : Snoop) (pre post : List Entry) : Prop where
  running : s.running
  initiator : r.initiator ≠ 15
  abandoned : abandonedOf s.transit.abandoned ⟨r.initiator, r.tag⟩ = 0
  table : s.transit.table = pre ++ e :: post
  alone : ∀ x ∈ pre ++ post, x.key ≠ e.key ∧ x.id ≠ e.id
  key : e.key = ⟨r.initiator, r.tag⟩
  path : e.path = .issued
  downstream : e.downstream = .taken
  kind : e.kind = .write
  snoop : e.snoop = some sn
  status : r.status = .okay
  mode : s.config.active.mode? = some .pass

/-- The state that such a write's snoop beat is offered to: the entry READY, and the free choice of the order spent. -/
def State.offeredWrite (s : State) (e : Entry) (pre post : List Entry) : State :=
  { s.beginEvent with
    freeIndex := s.freeIndex + 1
    transit := { s.transit with table := pre ++ { e with path := .none, answer := .ready ⟨.okay, []⟩ } :: post } }

/-- Such a write's answer: upstream under the entry's key, OKAY, without data. -/
def writeAnswer (r : Response) : Response :=
  { kind := .write, initiator := r.initiator, tag := r.tag, status := .okay, data := [] }

/-- Such a write is offered, and then answered and freed. -/
theorem State.AnswersWrite.exec_eq {s : State} {r : Response} {e : Entry} {sn : Snoop} {pre post : List Entry}
    (h : s.AnswersWrite r e sn pre post) {t : State}
    (ht : (s.offeredWrite e pre post).snoopOffer sn r.initiator = t) (hd : t.applyDue = false) :
    exec (.dPortResponse r) s = .next (t.withAnswers (pre ++ post, [writeAnswer r])) := by
  have hkey : ∀ x ∈ pre ++ post, x.key ≠ e.key := fun x hx => (h.alone x hx).1
  obtain ⟨hissued, -⟩ := matchedResponseActs s r e pre post h.running h.initiator h.abandoned h.table
    (fun x hx => (h.alone x hx).2) (fun x hx hk => absurd hk (hkey x (List.mem_append_left _ hx))) h.key h.downstream
  obtain ⟨-, hoffer, hsent⟩ := hissued h.path
  have hnr : e.kind ≠ .read := by simp [h.kind]
  simp only [if_neg hnr, h.status, true_implies] at hoffer hsent
  have offer := State.offer_pass (s := s.offeredWrite e pre post) (i := r.initiator) h.mode h.running.2
    (by rw [ht]; exact hd)
  have left : ∀ u : State, u = (s.offeredWrite e pre post).snoopOffer sn r.initiator → State.withAnswers u (releaseKey e.key
      (pre ++ { e with path := .none, answer := .ready ⟨.okay, []⟩ } :: post)) =
      t.withAnswers (pre ++ post, [writeAnswer r]) := fun u hu => by
    rw [hu, ht]
    exact congrArg t.withAnswers ((hsent hkey).trans (by rw [h.kind]; rfl))
  rcases hoffer sn h.kind h.snoop with ho | ho
  · exact ho.trans (congrArg _ (left _ (offer _ _).1))
  · exact ho.trans (congrArg _ (left _ (offer _ _).2))

/-- The answers that leave meet nothing of the store and the engine. -/
theorem State.withAnswers_headPlaced (s : State) (d : DirectoryEntry) (rest : List DirectoryEntry)
    (sent : List Entry × List Response) :
    (s.headPlaced d rest).withAnswers sent = (s.withAnswers sent).headPlaced d rest := by
  unfold State.headPlaced State.withAnswers
  dsimp only
  cases placement s.config.active.area s.spill.producer
    (ringFree s.config.active.area s.spill.producer s.spill.consumer) d.cells.length s.spill.wrapCount <;> rfl

/-! ## The offer of the consumer word, judged -/

section consumer

variable {s : State} {sn : Snoop}

/-- An offset that is not allowed sets BAD_CONSUMER. -/
theorem State.consumerOffer_rejected (h : s.spill.engine ≠ .off) (hb : sn.beats = 1) (hm : sn.beat.mask = 0xFF)
    (ha : ¬s.consumerAllowed (sn.beat.value.extractLsb' 0 32).toNat = true) : s.consumerOffer sn = s.raise .badConsumer :=
  (State.consumerOffer_judged h hb hm).trans (State.judgeConsumer_rejected ha)

theorem State.consumerOffer_taken (h : s.spill.engine ≠ .off) (hb : sn.beats = 1) (hm : sn.beat.mask = 0xFF)
    (ha : s.consumerAllowed (sn.beat.value.extractLsb' 0 32).toNat = true) (he : s.spill.engine ≠ .waitSpace) :
    s.consumerOffer sn = { s with spill := { s.spill with consumer := (sn.beat.value.extractLsb' 0 32).toNat } } :=
  (State.consumerOffer_judged h hb hm).trans (State.judgeConsumer_taken ha he)

theorem State.consumerOffer_places (h : s.spill.engine ≠ .off) (hb : sn.beats = 1) (hm : sn.beat.mask = 0xFF)
    (ha : s.consumerAllowed (sn.beat.value.extractLsb' 0 32).toNat = true) (he : s.spill.engine = .waitSpace)
    {d : DirectoryEntry} {rest : List DirectoryEntry} (hd : s.store.directory = d :: rest) :
    s.consumerOffer sn = ({ s with spill := { s.spill with
      consumer := (sn.beat.value.extractLsb' 0 32).toNat } } : State).headPlaced d rest :=
  (State.consumerOffer_judged h hb hm).trans (State.judgeConsumer_places ha he hd)

end consumer

/-- Settles O50: the write is offered and answered, and the offer is judged the same way in any mode. -/
theorem consumerWriteIsJudged : Obligations.ConsumerWriteIsJudged := by
  constructor
  · intro s r e sn pre post hr h15 ha ht hne hk hp hd hw hsn hword hs hm answered area v forward
    have write : s.AnswersWrite r e sn pre post := ⟨hr, h15, ha, ht, hne, hk, hp, hd, hw, hsn, hs, hm⟩
    have left : ∀ {t u : State}, (s.offeredWrite e pre post).consumerOffer sn = t →
        t.withAnswers (pre ++ post, [writeAnswer r]) = u → exec (.dPortResponse r) s = .next u := fun hoffer hu => by
      have due := State.consumerOffer_applyDue (s := s.offeredWrite e pre post) sn hr.2
      rw [hoffer] at due
      exact (write.exec_eq ((State.snoopOffer_consumer hword _).trans hoffer) due).trans (congrArg _ hu)
    have allowed := State.consumerAllowed_iff (s.offeredWrite e pre post) v
    refine ⟨fun ho => left (State.consumerOffer_off sn ho) rfl,
      fun ho hmal => left (State.consumerOffer_malformed ho hmal) rfl,
      fun ho hb hfull h8 hlt hfwd => ⟨fun he => ?_, fun d rest he hdir => ?_⟩,
      fun ho hb hfull hn => left (State.consumerOffer_rejected ho hb hfull fun h => hn (allowed.1 h)) rfl⟩
    · exact left (State.consumerOffer_taken ho hb hfull (allowed.2 ⟨h8, hlt, hfwd⟩) he) rfl
    · exact left (State.consumerOffer_places (s := s.offeredWrite e pre post) ho hb hfull
        (allowed.2 ⟨h8, hlt, hfwd⟩) he hdir) (State.withAnswers_headPlaced _ d rest _)
  · intro s sn i hword area v forward taken
    have allowed := State.consumerAllowed_iff s v
    rw [State.snoopOffer_consumer hword]
    exact ⟨fun ho => State.consumerOffer_off sn ho, fun ho hmal => State.consumerOffer_malformed ho hmal,
      fun ho hb hfull h8 hlt hfwd => ⟨fun he => State.consumerOffer_taken ho hb hfull (allowed.2 ⟨h8, hlt, hfwd⟩) he,
        fun d rest he hdir => State.consumerOffer_places ho hb hfull (allowed.2 ⟨h8, hlt, hfwd⟩) he hdir⟩,
      fun ho hb hfull hn => State.consumerOffer_rejected ho hb hfull fun h => hn (allowed.1 h)⟩

/-- Settles O51: the write is offered and answered in PASS mode; what each code does, code by code; and the three tests. -/
theorem commandWriteIsJudged : Obligations.CommandWriteIsJudged := by
  refine ⟨?_, ?_, ?_⟩
  · intro s r e sn pre post hr h15 ha ht hne hk hp hd hw hsn hword hs hm htr answered permitted code
    have write : s.AnswersWrite r e sn pre post := ⟨hr, h15, ha, ht, hne, hk, hp, hd, hw, hsn, hs, hm⟩
    have left : ∀ {t u : State}, (s.offeredWrite e pre post).commandOffer sn r.initiator = t → t.applyDue = s.applyDue →
        t.withAnswers (pre ++ post, [writeAnswer r]) = u → exec (.dPortResponse r) s = .next u := fun hoffer hdue hu =>
      (write.exec_eq ((State.snoopOffer_command hword _).trans hoffer) (hdue.trans hr.2)).trans (congrArg _ hu)
    refine ⟨fun hen => left (State.commandOffer_disabled sn _ hen) rfl rfl,
      fun hen hperm => left (State.commandOffer_unpermitted sn hen hperm) rfl rfl,
      fun hen hperm hmal => left (State.commandOffer_malformed hen hperm hmal) rfl rfl, fun hen hperm hfull => ?_⟩
    have decoded := State.commandOffer_decoded (s := s.offeredWrite e pre post) hen hperm hfull
    exact ⟨fun hc => left (decoded.trans (State.decodeCommand_idle hm htr hc)) rfl rfl,
      fun hc => left (decoded.trans (State.decodeCommand_clear hc)) rfl rfl,
      fun hc => left (decoded.trans (State.decodeCommand_unknown hc)) rfl rfl⟩
  · intro s sn i hword hen hperm hfull p code argument after unit
    have decoded := (State.snoopOffer_command hword i).trans (State.commandOffer_decoded (s := s) hen hperm hfull)
    have acts : ∀ {t : State}, s.decodeCommand sn.beat.value = t.count .controlInterpreted → ∀ ⦃u⦄, t = u → after u :=
      fun hcode u htu => htu ▸ decoded.trans hcode
    refine ⟨fun hc => ?_, fun hc => ?_, fun hc => ?_, fun hc => decoded.trans (State.decodeCommand_mark hc),
      fun hc => decoded.trans (State.decodeCommand_clear hc), fun hc => decoded.trans (State.decodeCommand_unknown hc)⟩
    · have arm := acts (State.decodeCommand_arm hc)
      exact ⟨fun hdis hobs => arm (State.armUnit_arms hdis hobs), fun hstays => arm (State.armUnit_stays hstays)⟩
    · have disarm := acts (State.decodeCommand_disarm hc)
      exact ⟨fun hdis => disarm (State.disarmUnit_disarmed hdis), fun a harm => disarm (State.disarmUnit_armed harm),
        fun r hcap hopen => disarm (State.disarmUnit_capturing hcap hopen)⟩
    · have force := acts (State.decodeCommand_force hc)
      exact ⟨fun hdis => force (State.forceUnit_disarmed _ hdis),
        fun r hcap hopen => force (State.forceUnit_capturing _ hcap hopen),
        fun a harm => ⟨s.fire .forceWord false, s.fire_gives .forceWord false,
          force (State.forceUnit_armed _ harm)⟩⟩
  · intro s sn i hword permitted
    rw [State.snoopOffer_command hword]
    exact ⟨fun hen => State.commandOffer_disabled sn i hen, fun hen hperm => State.commandOffer_unpermitted sn hen hperm,
      fun hen hperm hmal => State.commandOffer_malformed hen hperm hmal⟩

end Sys2Proof.Machine
end

section
/-! SUPPORT. The history ring's invariant: what leaves the observation unit alone, what changes no more than the claimed
marks of its ring, and that an observation enters the ring with the number that follows the newest one's. -/

namespace Sys2Proof.Machine

-- One theorem at a time: each would otherwise hold a thread of its own.
set_option Elab.async false

/-! ## What leaves the observation unit alone -/

@[simp] theorem State.clearExpired_observer (s : State) : s.clearExpired.observer = s.observer := by
  unfold State.clearExpired
  split <;> rfl

@[simp] theorem State.followHold_observer (s : State) : s.followHold.observer = s.observer := by
  have h := s.clearExpired_observer
  unfold State.followHold
  dsimp only
  split
  · split <;> exact h
  · exact h

@[simp] theorem State.expireHold_observer (s : State) : s.expireHold.observer = s.observer := rfl

@[simp] theorem State.placeHead_observer (s : State) : s.placeHead.observer = s.observer := by
  unfold State.placeHead
  split
  · rfl
  · split <;> rfl

@[simp] theorem State.takeHead_observer (s : State) : s.takeHead.observer = s.observer := by
  unfold State.takeHead
  split
  · exact s.placeHead_observer
  · rfl

@[simp] theorem State.removeHead_observer (s : State) : s.removeHead.observer = s.observer :=
  State.followHold_observer _

@[simp] theorem State.failAttempt_observer (s : State) (c : FaultCause) : (s.failAttempt c).observer = s.observer := rfl

@[simp] theorem State.bodyAcknowledged_observer (s : State) (a : Attempt) :
    (s.bodyAcknowledged a).observer = s.observer := by
  unfold State.bodyAcknowledged
  dsimp only
  split
  · split
    · exact State.takeHead_observer _
    · rfl
    · rfl
  · rfl

@[simp] theorem State.recordPublished_observer (s : State) (p : Nat) (w : Word) :
    (s.recordPublished p w).observer = s.observer := by
  simp [State.recordPublished]

@[simp] theorem State.loneWrapPublished_observer (s : State) (p : Nat) (w : Word) :
    (s.loneWrapPublished p w).observer = s.observer := by
  simp [State.loneWrapPublished]

@[simp] theorem State.currentAnswered_observer (s : State) (a : Attempt) (role : WriteRole) (status : Status) :
    (s.currentAnswered a role status).observer = s.observer := by
  unfold State.currentAnswered
  split
  · exact s.failAttempt_observer _
  · exact s.bodyAcknowledged_observer a
  · split
    · exact s.loneWrapPublished_observer _ _
    · exact s.recordPublished_observer _ _
    · exact s.recordPublished_observer _ _

@[simp] theorem State.staleAnswered_observer (s : State) (role : WriteRole) (status : Status) :
    (s.staleAnswered role status).observer = s.observer := by
  unfold State.staleAnswered
  split
  · rfl
  · split <;> simp

@[simp] theorem State.spillResponse_observer (s : State) (tag : Tag) (status : Status) :
    (s.spillResponse tag status).1.observer = s.observer := by
  unfold State.spillResponse
  split
  · split
    · dsimp only
      split
      · exact State.staleAnswered_observer _ _ _
      · split
        · exact State.currentAnswered_observer _ _ _ _
        · rfl
    · rfl
  · rfl
  · rfl
  · rfl

@[simp] theorem State.consumerOffer_observer (s : State) (sn : Snoop) : (s.consumerOffer sn).observer = s.observer := by
  unfold State.consumerOffer State.judgeConsumer
  repeat' split
  · rfl
  · dsimp only
    split
    · exact State.placeHead_observer _
    · rfl
  · rfl
  · rfl

@[simp] theorem State.spillResume_observer (s : State) : s.spillResume.1.observer = s.observer := by
  rcases s.spillResume_cases with h | h | h <;> rw [h]
  · rfl
  · exact s.placeHead_observer

@[simp] theorem State.spillSkip_observer (s : State) : s.spillSkip.1.observer = s.observer := by
  rcases s.spillSkip_cases with h | h <;> rw [h]
  simp [State.headSkipped]

@[simp] theorem State.discardHead_observer (s : State) : s.discardHead.1.observer = s.observer := by
  unfold State.discardHead
  split
  · exact s.removeHead_observer
  · rfl

@[simp] theorem State.spillCaptureReset_observer (s : State) : s.spillCaptureReset.observer = s.observer := by
  rcases s.spillCaptureReset_cases with h | h <;> rw [h]
  rfl

@[simp] theorem State.spillGeometryChanged_observer (s : State) : s.spillGeometryChanged.observer = s.observer := by
  unfold State.spillGeometryChanged
  split <;> rfl

@[simp] theorem State.leaveCapture_observer (s : State) : s.leaveCapture.observer = s.observer := by
  unfold State.leaveCapture
  split <;> rfl

@[simp] theorem State.fileRecord_observer (s : State) (r : OpenRecord) : (s.fileRecord r).observer = s.observer := by
  unfold State.fileRecord
  dsimp only
  split <;> split <;> rfl

@[simp] theorem State.closeRecord_observer (s : State) (r : OpenRecord) : (s.closeRecord r).observer = s.observer := by
  unfold State.closeRecord
  dsimp only
  split <;> simp

/-- Step 3 of the path leaves the ring and the counter to steps 1 and 4. -/
@[simp] theorem State.offer_observer (s : State) (o : Observation) : (s.offer o).state.observer = s.observer := by
  unfold State.offer
  split
  · rfl
  · split
    · rfl
    · dsimp only
      split
      · exact s.closeRecord_observer _
      · split
        · exact s.closeRecord_observer _
        · rfl

@[simp] theorem State.abortRecord_observer (s : State) : s.abortRecord.observer = s.observer := by
  unfold State.abortRecord
  split
  · exact s.closeRecord_observer _
  · rfl

@[simp] theorem State.armUnit_observer (s : State) : s.armUnit.1.observer = s.observer := by
  unfold State.armUnit
  split
  · split <;> rfl
  · rfl
  · rfl

@[simp] theorem State.disarmUnit_observer (s : State) : s.disarmUnit.observer = s.observer := by
  unfold State.disarmUnit
  split
  · rfl
  · rfl
  · exact s.abortRecord_observer

@[simp] theorem State.applyTrigger_observer (s : State) : s.applyTrigger.observer = s.observer := by
  unfold State.applyTrigger
  split
  · split <;> rfl
  · rfl
  · rfl

@[simp] theorem State.applyLossWatch_observer (s : State) : s.applyLossWatch.observer = s.observer := by
  unfold State.applyLossWatch
  split <;> rfl

@[simp] theorem State.applyHold_observer (s : State) : s.applyHold.observer = s.observer := by
  unfold State.applyHold
  dsimp only
  split <;> simp

@[simp] theorem State.presentRequest_observer (s : State) (r : Request) :
    (s.presentRequest r).observer = s.observer := by
  unfold State.presentRequest
  split
  · rfl
  · dsimp only
    split <;> simp

@[simp] theorem State.arbitrate_observer (s : State) : s.arbitrate.observer = s.observer := by
  unfold State.arbitrate
  repeat' split
  all_goals rfl

@[simp] theorem State.takeDownstream_observer (s : State) : s.takeDownstream.observer = s.observer := by
  unfold State.takeDownstream
  split
  · rfl
  · dsimp only
    split <;> rfl

@[simp] theorem State.readFrame_observer (s : State) (f : Frame) (w : Option Word) :
    (s.readFrame f w).observer = s.observer := by
  unfold State.readFrame
  repeat' split
  all_goals rfl

@[simp] theorem State.statusFrame_observer (s : State) (f : Frame) (i : BitVec 16) :
    (s.statusFrame f i).observer = s.observer := by
  unfold State.statusFrame
  dsimp only
  repeat' split
  all_goals rfl

@[simp] theorem State.recordFrame_observer (s : State) (f : Frame) (o : BitVec 16) (k : Option Nat) :
    (s.recordFrame f o k).observer = s.observer := by
  unfold State.recordFrame
  repeat' split
  all_goals rfl

@[simp] theorem State.writeStagedWord_observer (s : State) (i : BitVec 16) (w : Word) :
    (s.writeStagedWord i w).1.observer = s.observer := by
  unfold State.writeStagedWord
  split
  · rfl
  · split <;> rfl

/-! ## What changes no more than the claimed marks -/

/-- The same observations stand in the ring, under the same sequence counter; their claimed marks may differ. -/
structure State.SameRing (s t : State) : Prop where
  sequence : t.observer.sequence = s.observer.sequence
  observations : t.observer.ring.map RingEntry.obs = s.observer.ring.map RingEntry.obs

theorem State.SameRing.of_observer {s t : State} (h : t.observer = s.observer := by rfl) : s.SameRing t :=
  ⟨congrArg _ h, by rw [h]⟩

theorem State.SameRing.trans {s t u : State} (h : s.SameRing t) (k : t.SameRing u) : s.SameRing u :=
  ⟨k.sequence.trans h.sequence, k.observations.trans h.observations⟩

/-- The walk of a fire claims entries and moves none (R91). -/
theorem preWalk_observations (p : ParamSet) (limit : Nat) : ∀ (ring : List RingEntry) (kept : List Observation),
    (preWalk p limit ring kept).1.map RingEntry.obs = ring.map RingEntry.obs
  | [], _ => rfl
  | e :: es, kept => by
    unfold preWalk
    split
    · rfl
    · split <;> exact congrArg (e.obs :: ·) (preWalk_observations p limit es _)

theorem State.openFor_sameRing (s : State) (c : TriggerCause) (b : Bool) : s.SameRing (s.openFor c b) :=
  ⟨rfl, preWalk_observations _ _ _ _⟩

theorem State.fire_sameRing (s : State) (c : TriggerCause) (b : Bool) : s.SameRing (s.fire c b) := by
  unfold State.fire
  split
  · dsimp only
    split
    · exact (s.openFor_sameRing c b).trans (.of_observer (State.closeRecord_observer _ _))
    · exact (s.openFor_sameRing c b).trans (.of_observer (State.followHold_observer _))
  · exact .of_observer

theorem State.satisfyStage_sameRing (s : State) (n : Nat) (b : Bool) : s.SameRing (s.satisfyStage n b) := by
  unfold State.satisfyStage
  split
  · exact .of_observer
  · exact s.fire_sameRing _ _
  · exact .of_observer

theorem State.evaluateTrigger_sameRing (s : State) (o : Observation) : s.SameRing (s.evaluateTrigger o) := by
  unfold State.evaluateTrigger State.evaluateHits
  split
  · exact .of_observer
  · dsimp only
    split
    · split
      · exact s.satisfyStage_sameRing _ _
      · exact .of_observer
    · split
      · exact s.satisfyStage_sameRing _ _
      · exact .of_observer
    · exact .of_observer
    · exact .of_observer
  · split <;> exact .of_observer

theorem State.triginEdgeSeen_sameRing (s : State) : s.SameRing s.triginEdgeSeen := by
  unfold State.triginEdgeSeen
  split
  · split
    · exact s.satisfyStage_sameRing _ _
    · exact .of_observer
  · exact s.fire_sameRing _ _
  · exact .of_observer
  · exact .of_observer
  · exact .of_observer

theorem State.triginRise_sameRing (s : State) (l : LineRise) : s.SameRing (s.triginRise l) := by
  unfold State.triginRise
  dsimp only
  split
  · refine .trans ?_ (State.triginEdgeSeen_sameRing _)
    exact .of_observer
  · exact .of_observer

theorem State.forceUnit_sameRing (s : State) (c : TriggerCause) : s.SameRing (s.forceUnit c).1 := by
  unfold State.forceUnit
  split
  · exact .of_observer
  · exact s.fire_sameRing _ _
  · exact .of_observer

/-- An apply claims every entry (R155). -/
theorem State.takeEffect_sameRing (s : State) : s.SameRing s.takeEffect := by
  have claimed : s.SameRing s.installStaged := ⟨rfl, by simp [State.installStaged, Function.comp_def]⟩
  have rest : s.takeEffect.observer = s.installStaged.observer := by
    unfold State.takeEffect
    dsimp only
    split <;> simp
  exact claimed.trans (.of_observer rest)

theorem State.takeDueApply_sameRing (s : State) : s.SameRing s.takeDueApply := by
  unfold State.takeDueApply
  split
  · exact s.takeEffect_sameRing
  · exact .of_observer

theorem State.applyCommand_sameRing (s : State) : s.SameRing s.applyCommand.1 := by
  unfold State.applyCommand State.requestApply
  split
  · exact .of_observer
  · split
    · exact .of_observer
    · dsimp only
      split
      · refine .trans ?_ (State.takeEffect_sameRing _)
        exact .of_observer
      · exact .of_observer

/-! ## The invariant, and an observation that enters -/

theorem State.ringSound_iff (s : State) : s.ringSound ↔ s.observer.ring.length ≤ 512 ∧
    ∀ i e, s.observer.ring[i]? = some e → e.obs.sequence = s.observer.sequence - BitVec.ofNat 32 (i + 1) := by
  unfold State.ringSound
  simp only [List.mem_zipIdx_iff_getElem?, Prod.forall]
  exact and_congr_right fun _ => forall_comm

theorem State.SameRing.sound {s t : State} (h : s.SameRing t) (hs : s.ringSound) : t.ringSound := by
  obtain ⟨hlen, hseq⟩ := s.ringSound_iff.1 hs
  have same : ∀ i : Nat, t.observer.ring[i]?.map RingEntry.obs = s.observer.ring[i]?.map RingEntry.obs := fun i => by
    rw [← List.getElem?_map, h.observations, List.getElem?_map]
  refine t.ringSound_iff.2 ⟨?_, fun i e he => ?_⟩
  · simpa using (congrArg List.length h.observations).trans_le (by simpa using hlen)
  · have hi := same i
    rw [he] at hi
    obtain ⟨e', he', hobs⟩ := Option.map_eq_some_iff.1 hi.symm
    rw [h.sequence, ← hobs]
    exact hseq i e' he'

/-- A change that leaves the observation unit alone keeps the ring. -/
theorem State.ringSound.same {s t : State} (h : s.ringSound) (ho : t.observer = s.observer := by rfl) : t.ringSound :=
  (State.SameRing.of_observer ho).sound h

theorem State.ringSound_of_empty {s : State} (h : s.observer.ring = []) : s.ringSound :=
  s.ringSound_iff.2 ⟨by simp [h], fun i e he => by simp [h] at he⟩

/-- An observation numbered by the counter and entered as the newest keeps the numbers consecutive; the oldest of 512
leaves (R38, R43). -/
theorem State.ringSound.entered {s t : State} (h : s.ringSound) {o : Observation} {claimed : Bool}
    (ho : o.sequence = s.observer.sequence)
    (ht : t.observer = { ring := (RingEntry.mk o claimed :: s.observer.ring).take Config.ringEntries,
                         sequence := s.observer.sequence + 1 }) : t.ringSound := by
  obtain ⟨-, hseq⟩ := s.ringSound_iff.1 h
  refine t.ringSound_iff.2 ⟨?_, fun i e he => ?_⟩
  · rw [ht]
    exact List.length_take_le _ _
  · rw [ht] at he ⊢
    have he' : (RingEntry.mk o claimed :: s.observer.ring)[i]? = some e :=
      by
      rw [List.getElem?_take] at he
      split at he
      · exact he
      · cases he
    cases i with
    | zero =>
      obtain rfl : RingEntry.mk o claimed = e := by simpa using he'
      simp [ho]
    | succ j =>
      rw [hseq j e (by simpa using he')]
      simp only [BitVec.ofNat_add]
      bv_omega

theorem State.observe_ringSound {s : State} (h : s.ringSound) (b : ObsBody) (d : Option Beat) :
    (s.observe b d).ringSound := by
  have entered : ∀ o claimed, o.sequence = s.observer.sequence →
      (((s.numbered o).offer o).state.enterRing o claimed).ringSound := fun o claimed ho =>
    h.entered (o := o) (claimed := claimed) ho (by simp)
  unfold State.observe State.observationPath
  split
  · dsimp only
    split
    · exact entered _ _ rfl
    · exact (State.evaluateTrigger_sameRing _ _).sound (entered _ _ rfl)
  · exact h

theorem State.snoopOffer_ringSound {s : State} (h : s.ringSound) (sn : Snoop) (i : Initiator) :
    (s.snoopOffer sn i).ringSound := by
  unfold State.snoopOffer State.commandOffer State.decodeCommand
  split
  · split
    · exact h
    · split
      · exact h.same
      · split
        · exact h.same
        · dsimp only
          repeat' split
          · exact h.same s.armUnit_observer
          · exact h.same s.disarmUnit_observer
          · exact ((s.forceUnit_sameRing _).sound h).same
          · exact (State.observe_ringSound h _ _).same
          · exact h.same
          · exact h.same
  · exact h.same (s.consumerOffer_observer sn)

theorem State.observeAndOffer_ringSound {s : State} (h : s.ringSound) (b : ObsBody) (d : Option Beat)
    (o : Option Snoop) (i : Initiator) : (s.observeAndOffer b d o i).ringSound := by
  have spent : (s.spendChoices 1).ringSound := h.same
  unfold State.observeAndOffer
  split
  · exact State.observe_ringSound h b d
  · dsimp only
    split
    · exact State.snoopOffer_ringSound ((State.takeDueApply_sameRing _).sound (State.observe_ringSound spent b d)) _ i
    · exact State.observe_ringSound ((State.takeDueApply_sameRing _).sound (State.snoopOffer_ringSound spent _ i)) b d

/-! ## The transit unit's events -/

theorem State.release_ringSound {s : State} (h : s.ringSound) (k : Key) : (s.release k).ringSound := h.same

theorem State.takePresented_ringSound {s : State} (h : s.ringSound) : s.takePresented.ringSound := by
  unfold State.takePresented State.takeRequest
  split
  · refine State.whenDue_kept (fun _ => ?_) h
    split
    · exact State.release_ringSound (State.observe_ringSound h.same _ _) _
    · exact h.same
  · exact h

theorem State.orphanResponse_ringSound {s : State} (h : s.ringSound) (r : Response) : (s.orphanResponse r).ringSound :=
  State.observe_ringSound h.same _ _

theorem State.memoryResponse_ringSound {s : State} (h : s.ringSound) (r : Response) :
    (s.memoryResponse r).ringSound := by
  unfold State.memoryResponse
  dsimp only
  split
  · exact State.orphanResponse_ringSound h.same r
  · split
    · exact State.orphanResponse_ringSound h r
    · split
      · exact State.release_ringSound (State.observe_ringSound h.same _ _) _
      · exact State.release_ringSound (State.observeAndOffer_ringSound h.same _ _ _ _) _

theorem State.takeResponse_ringSound {s : State} (h : s.ringSound) (r : Response) : (s.takeResponse r).ringSound := by
  have absorbed := h.same (s.spillResponse_observer r.tag r.status)
  unfold State.takeResponse
  split
  · dsimp only
    split
    · exact absorbed
    · exact State.orphanResponse_ringSound absorbed r
  · exact State.memoryResponse_ringSound h r

theorem State.expireEntry_ringSound {s : State} (h : s.ringSound) (e : Entry) : (s.expireEntry e).ringSound := by
  unfold State.expireEntry
  split
  · exact State.observe_ringSound h.same _ _
  · split
    · exact State.release_ringSound (State.observe_ringSound h.same _ _) _
    · exact State.release_ringSound (State.observe_ringSound h.same _ _) _
  · exact h

theorem State.expireAt_ringSound {s : State} (h : s.ringSound) (k : Key) (age : Nat) :
    (s.expireAt k age).ringSound := by
  unfold State.expireAt
  split
  · exact State.whenDue_kept (fun _ => State.expireEntry_ringSound h _) h
  · exact h

/-! ## Resets, pulses and frames -/

theorem State.fullResetEffect_ringSound (s : State) (abandoned : Bool) : (s.fullResetEffect abandoned).ringSound := by
  rw [State.fullResetEffect_eq]
  exact State.ringSound_of_empty rfl

theorem State.startQuiesce_ringSound {s : State} (h : s.ringSound) : s.startQuiesce.ringSound := by
  unfold State.startQuiesce
  dsimp only
  split
  · exact State.fullResetEffect_ringSound _ _
  · exact h.same

theorem State.captureReset_ringSound (s : State) : s.captureReset.ringSound :=
  State.ringSound_of_empty (by simp [State.captureReset_eq, State.captureEmptied])

theorem State.pulse_ringSound {s : State} (h : s.ringSound) : s.pulse.ringSound := by
  have slips : ∀ {t : State} (c : Bool), t.ringSound → (if c then t.slip else t).ringSound := fun c ht => by
    split
    · exact State.observe_ringSound ht.same _ _
    · exact ht
  have realigns : ∀ {t : State} (c : Bool) (d : Int), t.ringSound → (if c then t.realign d else t).ringSound :=
    fun c d ht => by
      split
      · exact State.observe_ringSound ht.same _ _
      · exact ht
  have recorded : ∀ d, (s.recordPulse d).ringSound := fun _ => h.same
  exact (realigns _ _ (slips _ (recorded _))).same

theorem State.syncinRise_ringSound {s : State} (h : s.ringSound) (l : LineRise) : (s.syncinRise l).ringSound := by
  unfold State.syncinRise
  dsimp only
  split
  · exact State.pulse_ringSound h.same
  · exact h.same

theorem State.loseSync_ringSound {s : State} (h : s.ringSound) : s.loseSync.ringSound :=
  State.observe_ringSound h.same _ _

theorem State.frame_ringSound {s : State} (hs : s.ringSound) (f : Frame) (need : Nat) {act : State → State × Result}
    (hact : (act s).1.ringSound) : (s.frame f need act).ringSound :=
  State.frame_kept f need (fun h => h.same) (fun _ h _ => h.same) (fun _ => hact) hs

theorem State.doneFrame_ringSound {s : State} (hs : s.ringSound) (f : Frame) (need : Nat) {act : State → State}
    (hact : (act s).ringSound) : (s.doneFrame f need act).ringSound :=
  State.frame_ringSound hs f need hact

/-! ## Every event -/

theorem Instr.effect_ringSound (c : Instr) (s : State) (hs : s.ringSound) : (Instr.effect c s).ringSound := by
  cases c with
  | requestPresented r => exact hs.same (s.presentRequest_observer r)
  | take => exact State.takePresented_ringSound hs
  | holdExpiry => exact State.whenDue_kept (fun _ => hs.same) hs
  | grant => exact hs.same s.arbitrate_observer
  | dPortTake => exact hs.same s.takeDownstream_observer
  | dPortResponse r => exact State.takeResponse_ringSound hs r
  | overdueExpiry i t a => exact State.expireAt_ringSound hs ⟨i, t⟩ a
  | fullReset f => exact State.doneFrame_ringSound hs f 1 (State.startQuiesce_ringSound hs)
  | quiesceComplete => exact State.whenDue_kept (fun _ => State.fullResetEffect_ringSound _ _) (s := s) hs
  | quiesceAbandon => exact State.whenDue_kept (fun _ => State.fullResetEffect_ringSound _ _) (s := s) hs
  | porRstn => exact hs
  | stageTimeout => exact State.whenDue_kept (fun _ => hs.same) hs
  | triginEdge l => exact (s.triginRise_sameRing l).sound hs
  | trigoutPulseEnd => exact State.whenDue_kept (fun _ => hs.same) hs
  | readActive f i => exact hs.same (s.readFrame_observer f _)
  | readStaged f i => exact hs.same (s.readFrame_observer f _)
  | writeStaged f i w => exact State.frame_ringSound hs f _ (hs.same (s.writeStagedWord_observer i w))
  | readStatus f i => exact hs.same (s.statusFrame_observer f i)
  | rawTimeSnapshot f => exact hs.same (s.statusFrame_observer f _)
  | apply f => exact State.frame_ringSound hs f _ (s.applyCommand_sameRing.sound hs)
  | applyTakesEffect => exact s.takeDueApply_sameRing.sound hs
  | arm f => exact State.frame_ringSound hs f _ (hs.same s.armUnit_observer)
  | disarm f => exact State.doneFrame_ringSound hs f _ (hs.same s.disarmUnit_observer)
  | force f => exact State.frame_ringSound hs f _ ((s.forceUnit_sameRing _).sound hs)
  | alignOnce f => exact State.doneFrame_ringSound hs f _ hs.same
  | clearCounters f => exact State.doneFrame_ringSound hs f _ hs.same
  | ackConditions f m => exact State.doneFrame_ringSound hs f _ hs.same
  | writeAlertEnable f m => exact State.doneFrame_ringSound hs f _ hs.same
  | readRecord f o k => exact hs.same (s.recordFrame_observer f o k)
  | discardHead f => exact State.frame_ringSound hs f _ (hs.same s.discardHead_observer)
  | spillResume f => exact State.frame_ringSound hs f _ (hs.same s.spillResume_observer)
  | spillSkip f => exact State.frame_ringSound hs f _ (hs.same s.spillSkip_observer)
  | captureReset f => exact State.doneFrame_ringSound hs f _ s.captureReset_ringSound
  | syncPulse l => exact State.syncinRise_ringSound hs l
  | lossWatchExpiry => exact State.whenDue_kept (fun _ => State.loseSync_ringSound hs) hs
  | unknownCommandByte f b => exact State.frame_ringSound hs f _ hs
  | resetEnd => exact hs

theorem ringSound_keptByEvents : KeptByEvents State.ringSound where
  bookkeeping _ _ _ h := h.same
  beginEvent _ h := h.same
  takeEffect s h := s.takeEffect_sameRing.sound h
  tick _ h := h.same
  powerOn _ _ := State.ringSound_of_empty rfl
  endReset _ h := h.same
  effect := Instr.effect_ringSound

/-- Settles O55: an observation enters with the next number, a fire and an apply change claimed marks alone, and a reset
empties the ring. -/
theorem historyRingStaysSound : Obligations.HistoryRingStaysSound := fun _ _ hs ht =>
  ringSound_keptByEvents.step hs ht

end Sys2Proof.Machine
end

section
/-! SUPPORT. What is due of itself: the list of due events, event by event in plain terms, and which of them a step with
an empty queue takes. -/

namespace Sys2Proof.Machine

-- One theorem at a time: each would otherwise hold a thread of its own.
set_option Elab.async false

/-! ## Free choices (log entry 8) -/

/-- A free choice among some is one of them. -/
theorem freePick_of_ne_nil {α : Type} (k : Nat) {xs : List α} (h : xs ≠ []) : ∃ x ∈ xs, freePick k xs = some x := by
  have hpos : 0 < xs.length := List.length_pos_iff.2 h
  unfold freePick
  split
  · exact ⟨xs.head h, List.head_mem h, List.head?_eq_some_head h⟩
  · have hlt : Config.pick k % xs.length < xs.length := Nat.mod_lt _ hpos
    exact ⟨_, List.getElem_mem hlt, List.getElem?_eq_getElem hlt⟩

/-! ## The due events -/

theorem mem_dueIf {due : Bool} {i j : Instr} : i ∈ dueIf due j ↔ i = j ∧ due = true := by
  unfold dueIf
  cases due <;> simp

theorem State.quiescing_iff (s : State) : s.quiescing = true ↔ s.transit.quiesceTimer ≠ none :=
  Option.isSome_iff_ne_none

theorem State.quiesceDone_iff (s : State) :
    s.quiesceDone = true ↔ s.transit.quiesceTimer ≠ none ∧ s.transit.table = [] := by
  rw [State.quiesceDone_eq, Bool.and_eq_true, s.quiescing_iff, decide_eq_true_iff]

/-- A TAKE is due past every obstacle of R3, in the channel's and the quiesce's own terms. -/
theorem State.canTake_iff_presented (s : State) : s.canTake = true ↔ s.transit.upstream ≠ none ∧
    s.transit.table.length < 48 ∧ s.holdInForce = false ∧ s.transit.quiesceTimer = none := by
  rw [s.canTake_iff, Option.isSome_iff_ne_none, ← Bool.not_eq_true s.quiescing, s.quiescing_iff, not_not]

theorem State.grantDue_iff (s : State) : s.grantDue = true ↔
    s.transit.dPort = none ∧ (s.transit.forwardQueue ≠ [] ∨ s.spillClaim ≠ none) := by
  simp [State.grantDue, Option.isSome_iff_ne_none]

/-- A list has an element at a place exactly where the elements before it are as many as the place says. -/
theorem getElem?_eq_some_iff_append {α : Type} {l : List α} {n : Nat} {a : α} :
    l[n]? = some a ↔ ∃ pre post, l = pre ++ a :: post ∧ pre.length = n := by
  constructor
  · intro h
    obtain ⟨hn, rfl⟩ := List.getElem?_eq_some_iff.1 h
    exact ⟨l.take n, l.drop (n + 1), by simp, by simp; omega⟩
  · rintro ⟨pre, post, rfl, rfl⟩
    simp

/-- Each entry whose deadline is reached gives one event, by its key and its place in the key's list. -/
theorem State.mem_dueExpiries_iff (s : State) (i : Instr) : i ∈ s.dueExpiries ↔
    ∃ (e : Entry) (pre post : List Entry), s.transit.table = pre ++ e :: post ∧
      i = .overdueExpiry e.key.initiator e.key.tag (pre.countP fun x => x.key == e.key) ∧
      e.answer = .pending ∧ e.overdueSeen = false ∧
      ∃ d, e.deadline = some d ∧ (d - e.takeTime).toNat ≤ (s.clock.raw - e.takeTime).toNat := by
  have due : ∀ e, s.expiryDue e = true ↔ e.answer = .pending ∧ e.overdueSeen = false ∧
      ∃ d, e.deadline = some d ∧ (d - e.takeTime).toNat ≤ (s.clock.raw - e.takeTime).toNat :=
    fun e => (s.expiryDue_iff e).trans and_rotate
  unfold State.dueExpiries
  simp only [List.mem_map, List.mem_filter, List.mem_zipIdx_iff_getElem?, Prod.exists, due]
  constructor
  · rintro ⟨e, n, ⟨hn, hdue⟩, rfl⟩
    obtain ⟨pre, post, ht, rfl⟩ := getElem?_eq_some_iff_append.1 hn
    exact ⟨e, pre, post, ht, by simp [ht], hdue⟩
  · rintro ⟨e, pre, post, ht, rfl, hdue⟩
    exact ⟨e, pre.length, ⟨getElem?_eq_some_iff_append.2 ⟨pre, post, ht, rfl⟩, hdue⟩, by simp [ht]⟩

/-- The due events, each by the part's own test, the expiries of the entries last. -/
theorem State.mem_dueEvents_iff (s : State) (i : Instr) : i ∈ s.dueEvents ↔
    (i = .quiesceComplete ∧ s.quiesceDone = true) ∨ (i = .quiesceAbandon ∧ s.abandonDue = true) ∨
    (i = .take ∧ s.canTake = true) ∨ (i = .grant ∧ s.grantDue = true) ∨
    (i = .holdExpiry ∧ s.holdLimitReached = true) ∨ (i = .stageTimeout ∧ s.stageTimedOut = true) ∨
    (i = .trigoutPulseEnd ∧ s.trigoutEnds = true) ∨ (i = .lossWatchExpiry ∧ s.lossDue = true) ∨
    i ∈ s.dueExpiries := by
  simp only [State.dueEvents, List.mem_append, mem_dueIf, or_assoc, or_left_comm (a := i ∈ s.dueExpiries)]
  simp only [or_comm (a := i ∈ s.dueExpiries)]

/-! ## A step with an empty queue -/

section emptyQueue

variable {s : State} (hp : s.pending = [])

include hp

theorem step_of_empty : step s = s.idleStep := by
  unfold step
  rw [hp]

theorem step_idle_held (h : s.held = true) : step s = .next s :=
  (step_of_empty hp).trans (if_pos h)

theorem step_idle_takes (h : s.held = false) {i : Instr} (hn : s.nextDue = some i) : step s = exec i s.dueChosen := by
  rw [step_of_empty hp, State.idleStep, if_neg (by simp [h]), hn]

theorem step_idle_ticks (h : s.held = false) (hn : s.nextDue = none) : step s = .next s.tick := by
  rw [step_of_empty hp, State.idleStep, if_neg (by simp [h]), hn]

/-- A due apply goes before every other due event, and is no choice. -/
theorem step_idle_apply (h : s.held = false) (hd : s.applyDue = true) : step s = exec .applyTakesEffect s := by
  have chosen : s.dueChosen = s := by simp [State.dueChosen, State.spendChoices, hd]
  rw [step_idle_takes hp h (if_pos hd), chosen]

/-- Else one of the due events is taken, and a choice among several is spent. -/
theorem step_idle_due (h : s.held = false) (hd : s.applyDue = false) (he : s.dueEvents ≠ []) :
    ∃ i ∈ s.dueEvents, step s = exec i s.dueChosen := by
  obtain ⟨i, hi, hpick⟩ := freePick_of_ne_nil s.freeIndex he
  exact ⟨i, hi, step_idle_takes hp h ((if_neg (by simp [hd])).trans hpick)⟩

theorem step_idle_tick (h : s.held = false) (hd : s.applyDue = false) (he : s.dueEvents = []) :
    step s = .next s.tick :=
  step_idle_ticks hp h ((if_neg (by simp [hd])).trans (by rw [he]; rfl))

end emptyQueue

/-- Settles O2: each due event by its own test, and a step with an empty queue by what is due. -/
theorem emptyQueueStep : Obligations.EmptyQueueStep := by
  refine ⟨fun s i => ?_, fun s hp => ⟨step_idle_held hp, step_idle_apply hp, fun h hd he => ?_, fun h hd he => ?_⟩⟩
  · rw [s.mem_dueEvents_iff, s.quiesceDone_iff, s.abandonDue_iff, s.canTake_iff_presented, s.grantDue_iff,
      s.holdLimitReached_iff, s.stageTimedOut_iff, s.trigoutEnds_iff, s.lossDue_iff, s.mem_dueExpiries_iff]
  · obtain ⟨i, hi, hs⟩ := step_idle_due hp h hd he
    exact ⟨i, hi, _, hs⟩
  · rw [step_idle_tick hp h hd he]
    cases hst : s.trigger.state <;> simp [State.tick, TriggerState.tick, hst, State.beginEvent]

end Sys2Proof.Machine
end

section
/-! SUPPORT. The path of an observation: what it enters as, what the stage of an ARMED unit makes of it, and what the
open record of a CAPTURING unit makes of it, each said once, case by case. -/

namespace Sys2Proof.Machine

-- One theorem at a time: each would otherwise hold a thread of its own.
set_option Elab.async false

/-! ## Entering a state, and entering the ring -/

theorem State.setTrigger_self {s : State} {t : TriggerState} (h : s.trigger.state = t) : s.setTrigger t = s := by
  subst h
  rfl

/-- A stage above 0 is entered with a timer where it has a timeout (R62). -/
theorem State.enterStage_succ (s : State) (n : Nat) : s.enterStage (n + 1) = s.setTrigger (.armed
    { stage := n + 1, outcomes := [], cumulative := 0,
      timer := if (s.config.active.stage (n + 1)).timeout = 0 then none else some 0 }) := by
  simp [State.enterStage, freshStage]

/-- With no record open, an observation is entered unclaimed and evaluated (R40, R42, R43). -/
theorem State.observe_unrecorded {s : State} {b : ObsBody} (beat : Option Beat) (h : ¬s.makesNone b)
    (hr : s.store.openRecord = none) : s.observe b beat =
      ((s.numbered (s.observationOf b beat)).enterRing (s.observationOf b beat) false).evaluateTrigger
        (s.observationOf b beat) := by
  have offered : ∀ o, (s.numbered o).offer o = { state := s.numbered o, claimed := false, closed := false } := by
    intro o
    unfold State.offer
    rw [State.numbered_store, hr]
  rw [State.observe_path beat h]
  simp [offered]

/-! ## The window of a HITS stage (R63) -/

@[simp] theorem ArmedStage.withOutcome_stage (a : ArmedStage) (d : StageDef) (hit : Bool) :
    (a.withOutcome d hit).stage = a.stage := by
  unfold ArmedStage.withOutcome
  dsimp only
  split <;> rfl

/-- For W = 0 the window is a count of hits, at most 64. -/
theorem ArmedStage.withOutcome_counting {d : StageDef} (h : d.window = 0) (a : ArmedStage) (hit : Bool) :
    a.withOutcome d hit = { a with cumulative := min 64 (a.cumulative + hit.toNat) } := by
  unfold ArmedStage.withOutcome
  rw [if_pos h]
  cases hit <;> rfl

/-- For W > 0 the window keeps the newest W outcomes. -/
theorem ArmedStage.withOutcome_sliding {d : StageDef} (h : d.window ≠ 0) {a : ArmedStage}
    (hlen : a.outcomes.length ≤ d.window.toNat) (hit : Bool) : a.withOutcome d hit =
      { a with outcomes := (a.outcomes ++ [hit]).drop (a.outcomes.length + 1 - d.window.toNat) } := by
  unfold ArmedStage.withOutcome
  rw [if_neg h]
  dsimp only
  rw [List.length_append, List.length_singleton]
  split
  · have one : a.outcomes.length + 1 - d.window.toNat = 1 := by omega
    rw [one, List.drop_one]
  · have none : a.outcomes.length + 1 - d.window.toNat = 0 := by omega
    rw [none, List.drop_zero]

/-- The window with one more outcome, for either kind of window. -/
theorem ArmedStage.withOutcome_eq {a : ArmedStage} {d : StageDef}
    (hlen : d.window ≠ 0 → a.outcomes.length ≤ d.window.toNat) (hit : Bool) : a.withOutcome d hit =
      if d.window = 0 then { a with cumulative := min 64 (a.cumulative + hit.toNat) }
      else { a with outcomes := (a.outcomes ++ [hit]).drop (a.outcomes.length + 1 - d.window.toNat) } := by
  split
  · exact ArmedStage.withOutcome_counting ‹_› a hit
  · exact ArmedStage.withOutcome_sliding ‹_› (hlen ‹_›) hit

theorem ArmedStage.hitCount_withOutcome {a : ArmedStage} {d : StageDef}
    (hlen : d.window ≠ 0 → a.outcomes.length ≤ d.window.toNat) (hit : Bool) : (a.withOutcome d hit).hitCount d =
      if d.window = 0 then min 64 (a.cumulative + hit.toNat)
      else ((a.outcomes ++ [hit]).drop (a.outcomes.length + 1 - d.window.toNat)).count true := by
  rw [ArmedStage.withOutcome_eq hlen]
  unfold ArmedStage.hitCount
  split <;> rfl

/-! ## The evaluation by an ARMED unit (R42, R63, R65) -/

theorem Observation.isSlip_iff (o : Observation) :
    o.isSlip = true ↔ o.body.kind = .mark ∧ o.body.cause = some .slip := by
  simp [Observation.isSlip]

theorem State.evaluateTrigger_disarmed {s : State} (h : s.trigger.state = .disarmed) (o : Observation) :
    s.evaluateTrigger o = s := by
  unfold State.evaluateTrigger
  rw [h]

section armed

variable {s : State} {a : ArmedStage} (h : s.trigger.state = .armed a) (o : Observation)

include h

/-- A LINE stage takes no observation, and a SLIP stage none but a MARK(SLIP). -/
theorem State.evaluateTrigger_unmoved (hc : (s.config.active.stage a.stage).condition? = some .line ∨
    ((s.config.active.stage a.stage).condition? = some .slip ∧ ¬o.isSlip = true)) : s.evaluateTrigger o = s := by
  unfold State.evaluateTrigger
  rw [h]
  rcases hc with hc | ⟨hc, hs⟩
  · simp only [hc]
  · simp only [hc, if_neg hs]

theorem State.evaluateTrigger_slip (hc : (s.config.active.stage a.stage).condition? = some .slip)
    (hs : o.isSlip = true) : s.evaluateTrigger o = s.satisfyStage a.stage true := by
  unfold State.evaluateTrigger
  rw [h]
  simp only [hc, if_pos hs]

theorem State.evaluateTrigger_hits (hc : (s.config.active.stage a.stage).condition? = some .hits) :
    s.evaluateTrigger o = s.evaluateHits a (s.config.active.stage a.stage) o := by
  unfold State.evaluateTrigger
  rw [h]
  simp only [hc]

end armed

theorem State.evaluateHits_below {s : State} {a : ArmedStage} {d : StageDef} {o : Observation}
    (h : (a.withOutcome d (hitsStage d o)).hitCount d < d.count.toNat) :
    s.evaluateHits a d o = s.setTrigger (.armed (a.withOutcome d (hitsStage d o))) :=
  if_neg (Nat.not_le.2 h)

theorem State.evaluateHits_reached {s : State} {a : ArmedStage} {d : StageDef} {o : Observation}
    (h : d.count.toNat ≤ (a.withOutcome d (hitsStage d o)).hitCount d) :
    s.evaluateHits a d o = s.satisfyStage a.stage true := by
  unfold State.evaluateHits
  dsimp only
  rw [if_pos h, ArmedStage.withOutcome_stage]

theorem State.satisfyStage_next {s : State} {n : Nat} (h : (s.config.active.stage n).action? = some .next) (w : Bool) :
    s.satisfyStage n w = s.enterStage (n + 1) := by
  unfold State.satisfyStage
  rw [h]

theorem State.satisfyStage_fire {s : State} {n : Nat} (h : (s.config.active.stage n).action? = some .fire) (w : Bool) :
    s.satisfyStage n w = s.fire .stage w := by
  unfold State.satisfyStage
  rw [h]

/-- Settles O18: the observation enters the ring unclaimed, and then the unit's state and its stage's condition say what
follows. -/
theorem observationRunsItsPath : Obligations.ObservationRunsItsPath := by
  intro s b beat p o made
  refine ⟨State.observe_of_makesNone beat, fun hm hr => ?_⟩
  let entered := (s.numbered o).enterRing o false
  have path : s.observe b beat = entered.evaluateTrigger o :=
    State.observe_unrecorded beat hm hr
  have made_eq : ∀ t, made t = entered.setTrigger t := fun _ => rfl
  have made_self : made s.trigger.state = entered :=
    (made_eq _).trans (State.setTrigger_self rfl)
  refine ⟨fun ht => ?_, fun a ht => ?_⟩
  · rw [← ht, made_self, path]
    exact State.evaluateTrigger_disarmed (s := entered) ht o
  intro d hit outcomes window hits slip satisfied
  have armed : entered.trigger.state = .armed a := ht
  rw [ht] at made_self
  have reached : satisfied →
      s.observe b beat = entered.satisfyStage a.stage true := fun hsat => by
    rw [path]
    rcases hsat with ⟨hc, hlen, hcount⟩ | ⟨hc, hslip⟩
    · rw [State.evaluateTrigger_hits armed o hc]
      exact State.evaluateHits_reached (hcount.trans_eq (ArmedStage.hitCount_withOutcome hlen hit).symm)
    · exact State.evaluateTrigger_slip armed o hc (o.isSlip_iff.2 hslip)
  refine ⟨fun hc => ?_, fun hc hlen hcount => ?_, fun hsat hn => ?_, fun hsat hf => ?_⟩
  · rw [path, made_self]
    exact State.evaluateTrigger_unmoved armed o (hc.imp_right fun hs => ⟨hs.1, mt o.isSlip_iff.1 hs.2⟩)
  · have below := (ArmedStage.hitCount_withOutcome hlen hit).trans_lt hcount
    rw [path, made_eq, State.evaluateTrigger_hits armed o hc]
    exact (State.evaluateHits_below below).trans
      (congrArg (fun w => State.setTrigger _ (.armed w)) (ArmedStage.withOutcome_eq hlen hit))
  · exact (reached hsat).trans ((State.satisfyStage_next (s := entered) hn true).trans (State.enterStage_succ _ _))
  · rw [reached hsat, State.satisfyStage_fire (s := entered) hf, made_self]
    exact State.fire_gives _ _ _

/-! ## Stages by their numbers (R61) -/

theorem ParamSet.stage_of_getElem? {p : ParamSet} {n : Nat} {d : StageDef} (h : p.stages[n]? = some d) :
    p.stage n = d := by
  simp [ParamSet.stage, h]

/-- The fire stage is the first with action FIRE. -/
theorem ParamSet.fireStage?_of_first {p : ParamSet} {n : Nat} {d : StageDef} (h : p.stages[n]? = some d)
    (hf : d.action? = some .fire)
    (hfirst : ∀ (m : Nat) (e : StageDef), m < n → p.stages[m]? = some e → e.action? ≠ some .fire) :
    p.fireStage? = some d := by
  obtain ⟨pre, post, hs, rfl⟩ := getElem?_eq_some_iff_append.1 h
  refine List.find?_eq_some_iff_append.2 ⟨by simp [hf], pre, post, hs, fun e he => ?_⟩
  obtain ⟨m, hm, rfl⟩ := List.getElem_of_mem he
  have := hfirst m pre[m] hm (by rw [hs, List.getElem?_append_left hm, List.getElem?_eq_getElem hm])
  simpa using this

theorem ParamSet.fireStage?_none {p : ParamSet} (h : ∀ d ∈ p.stages, d.action? ≠ some .fire) : p.fireStage? = none :=
  List.find?_eq_none.2 fun d hd => by simpa using h d hd

/-! ## The offer to the open record (R93, R94) -/

theorem suppresses_iff (p : ParamSet) (o : Observation) : suppresses p o = true ↔
    o.hits = 0 ∧ ∃ i, o.body.initiator = some i ∧ p.suppress.getLsbD i.toNat = true := by
  unfold suppresses
  cases o.body.initiator <;> simp [and_comm]

section offer

variable {s : State} {o : Observation} {r : OpenRecord} (hr : s.store.openRecord = some r)

include hr

theorem State.offer_suppressed (h : suppresses s.config.active o = true) : s.offer o =
    { state := ({ s with store := { s.store with
        openRecord := some { r with suppressed := satSucc r.suppressed } } } : State).count .suppressed,
      claimed := true, closed := false } := by
  unfold State.offer
  rw [hr]
  simp only [if_pos h]

variable (h : ¬suppresses s.config.active o = true)

include h

theorem State.offer_kept (hd : 1 < r.postRemaining)
    (hm : r.observations.length + 1 ≠ s.config.active.maxObs.toNat) : s.offer o =
      { state := { s with store := { s.store with openRecord := some (r.keep o) } }, claimed := true,
        closed := false } := by
  have due : ¬(r.keep o).postRemaining = 0 := Nat.sub_ne_zero_of_lt hd
  have room : ¬(r.keep o).observations.length = s.config.active.maxObs.toNat := by simpa [OpenRecord.keep] using hm
  unfold State.offer
  rw [hr]
  simp only [if_neg h, if_neg due, if_neg room]

theorem State.offer_last (hd : r.postRemaining ≤ 1) :
    s.offer o = { state := s.closeRecord (r.keep o), claimed := true, closed := true } := by
  have due : (r.keep o).postRemaining = 0 := Nat.sub_eq_zero_of_le hd
  unfold State.offer
  rw [hr]
  simp only [if_neg h, if_pos due]

theorem State.offer_truncates (hd : 1 < r.postRemaining)
    (hm : r.observations.length + 1 = s.config.active.maxObs.toNat) : s.offer o =
      { state := s.closeRecord { r.keep o with truncated := true }, claimed := true, closed := true } := by
  have due : ¬(r.keep o).postRemaining = 0 := Nat.sub_ne_zero_of_lt hd
  have full : (r.keep o).observations.length = s.config.active.maxObs.toNat := by simpa [OpenRecord.keep] using hm
  unfold State.offer
  rw [hr]
  simp only [if_neg h, if_neg due, if_pos full]

end offer

/-! ## A close meets nothing of the ring -/

/-- Hold does not read the observation unit. -/
theorem State.followHold_withObserver (s : State) (u : ObservationUnit) :
    ({ s with observer := u } : State).followHold = { s.followHold with observer := u } := by
  have h : ({ s with observer := u } : State).clearExpired = { s.clearExpired with observer := u } := by
    unfold State.clearExpired
    change (if s.storeLow then _ else _) = _
    split <;> rfl
  unfold State.followHold
  rw [h]
  change (if s.clearExpired.holdInForce then _ else _) = _
  dsimp only
  split
  · split <;> rfl
  · rfl

theorem State.headPlaced_withObserver (s : State) (h : DirectoryEntry) (rest : List DirectoryEntry)
    (u : ObservationUnit) : ({ s with observer := u } : State).headPlaced h rest =
      { s.headPlaced h rest with observer := u } := by
  unfold State.headPlaced
  dsimp only
  cases placement s.config.active.area s.spill.producer
    (ringFree s.config.active.area s.spill.producer s.spill.consumer) h.cells.length s.spill.wrapCount <;> rfl

theorem State.takeHead_withObserver (s : State) (u : ObservationUnit) :
    ({ s with observer := u } : State).takeHead = { s.takeHead with observer := u } := by
  simp only [State.takeHead_eq]
  cases s.store.directory with
  | nil => rfl
  | cons h rest =>
    dsimp only
    rw [State.headPlaced_withObserver]
    split <;> rfl

theorem State.fileRecord_withObserver (s : State) (r : OpenRecord) (u : ObservationUnit) :
    ({ s with observer := u } : State).fileRecord r = { s.fileRecord r with observer := u } := by
  unfold State.fileRecord
  cases r.truncated <;> cases r.aborted <;> rfl

theorem State.leaveCapture_withObserver (s : State) (u : ObservationUnit) :
    ({ s with observer := u } : State).leaveCapture = { s.leaveCapture with observer := u } := by
  unfold State.leaveCapture
  dsimp only
  split <;> rfl

theorem State.closeRecord_withObserver (s : State) (r : OpenRecord) (u : ObservationUnit) :
    ({ s with observer := u } : State).closeRecord r = { s.closeRecord r with observer := u } := by
  unfold State.closeRecord
  rw [State.fileRecord_withObserver]
  dsimp only
  split
  · rw [← State.followHold_withObserver, ← State.takeHead_withObserver]
    rfl
  · rw [State.leaveCapture_withObserver, State.takeHead_withObserver, State.followHold_withObserver]

/-- A close and the entry into the ring may come in either order. -/
theorem State.closeRecord_enterRing (s : State) (r : OpenRecord) (o : Observation) (claimed : Bool) :
    (s.closeRecord r).enterRing o claimed = (s.enterRing o claimed).closeRecord r := by
  have entered : (s.closeRecord r).enterRing o claimed =
      { s.closeRecord r with observer := (s.enterRing o claimed).observer } := by
    rw [State.enterRing, s.closeRecord_observer]
    rfl
  exact entered.trans (State.closeRecord_withObserver s r _).symm

/-! ## The evaluation by a CAPTURING unit (R72) -/

theorem retriggers_iff (p : ParamSet) (o : Observation) : retriggers p o = true ↔
    ∃ d, p.fireStage? = some d ∧ d.condition? = some .hits ∧ (o.hits &&& d.watchSet) ≠ 0 := by
  unfold retriggers hitsStage
  cases p.fireStage? <;> simp

theorem State.evaluateTrigger_capturing {s : State} (h : s.trigger.state = .capturing) (o : Observation) :
    s.evaluateTrigger o = if retriggers s.config.active o then s.retrigger else s := by
  unfold State.evaluateTrigger
  rw [h]

/-! ## The path past an open record -/

/-- A hit of the fire stage's set needs a hit. -/
theorem retriggers_of_no_hits (p : ParamSet) {o : Observation} (h : o.hits = 0) : ¬retriggers p o = true := by
  intro hr
  obtain ⟨d, -, -, hhit⟩ := (retriggers_iff p o).1 hr
  exact hhit (by simp [h])

section recorded

variable {s : State} {b : ObsBody} {beat : Option Beat} (h : ¬s.makesNone b)

include h

/-- An observation that the open record claims without a close is tested as a retrigger. -/
theorem State.observe_claimed {t : State} (ht : t.trigger.state = .capturing)
    (ho : (s.numbered (s.observationOf b beat)).offer (s.observationOf b beat) =
      { state := t, claimed := true, closed := false }) :
    s.observe b beat = if retriggers t.config.active (s.observationOf b beat)
      then (t.enterRing (s.observationOf b beat) true).retrigger else t.enterRing (s.observationOf b beat) true := by
  rw [State.observe_path beat h]
  dsimp only
  rw [ho]
  exact State.evaluateTrigger_capturing (s := t.enterRing _ true) ht _

/-- One that closes the record is not. -/
theorem State.observe_closes {k : OpenRecord}
    (ho : (s.numbered (s.observationOf b beat)).offer (s.observationOf b beat) =
      { state := (s.numbered (s.observationOf b beat)).closeRecord k, claimed := true, closed := true }) :
    s.observe b beat =
      ((s.numbered (s.observationOf b beat)).enterRing (s.observationOf b beat) true).closeRecord k := by
  rw [State.observe_path beat h]
  dsimp only
  rw [ho]
  exact State.closeRecord_enterRing _ _ _ _

end recorded

/-- A record that is not aborted leaves CAPTURING by the repeat mode (R75). -/
theorem State.closeRecord_completed (s : State) {r : OpenRecord} (h : r.aborted = false) :
    s.closeRecord r = s.recordClosed r s.afterCapture := by
  rw [State.closeRecord_eq, if_neg (by simp [h])]

/-- Settles O19: what the offer leaves, case by case; a close meets nothing of the ring, so the observation may enter
first. -/
theorem openRecordTakesObservation : Obligations.OpenRecordTakesObservation := by
  refine ⟨fun p n d hd => ⟨ParamSet.stage_of_getElem? hd, ParamSet.fireStage?_of_first hd⟩,
    fun p => ParamSet.fireStage?_none, ?_⟩
  intro s b beat r hm hr ht p o kept made suppressed retriggered
  have numbered : (s.numbered o).store.openRecord = some r := hr
  have spared : ¬suppressed → ¬suppresses (s.numbered o).config.active o = true := mt (suppresses_iff p o).1
  refine ⟨fun hs => ?_, fun hs hd hroom => ?_, fun hs hd ha => ?_, fun hs hd hfull ha => ?_⟩
  · have offered := State.offer_suppressed numbered ((suppresses_iff p o).2 hs)
    exact (State.observe_claimed hm (by exact ht) offered).trans (if_neg (retriggers_of_no_hits p hs.1))
  · have claimed := State.observe_claimed hm (by exact ht) (State.offer_kept numbered (spared hs) hd hroom)
    exact ⟨fun hno => claimed.trans (if_neg (mt (retriggers_iff p o).1 hno)),
      fun hyes => claimed.trans (if_pos ((retriggers_iff p o).2 hyes))⟩
  · rw [State.observe_closes hm (State.offer_last numbered (spared hs) hd)]
    exact State.closeRecord_completed _ ha
  · rw [State.observe_closes hm (State.offer_truncates numbered (spared hs) hd hfull)]
    exact State.closeRecord_completed _ ha

end Sys2Proof.Machine
end

section
/-! SUPPORT. The watch table: each of an entry's six tests and the hit set in plain terms; what an observation's hits do to
the statistics, and that nothing past step 2 of its path touches them. -/

namespace Sys2Proof.Machine

-- One theorem at a time: each would otherwise hold a thread of its own.
set_option Elab.async false

/-! ## The tests of an observation's fields (R50–R54) -/

theorem WatchEntry.kindTest_eq (e : WatchEntry) (b : ObsBody) :
    e.kindTest b = e.kinds.getLsbD (match b.kind with
      | .read => 0 | .write => 1 | .declined => 2 | .overdue => 3 | .late => 4 | .orphan => 5 | .mark => 6) := by
  unfold WatchEntry.kindTest
  cases b.kind <;> rfl

theorem WatchEntry.addressTest_of_noRange {e : WatchEntry} (h : e.hasRange = false) (b : ObsBody) :
    e.addressTest b = true := by
  simp [WatchEntry.addressTest, h]

theorem WatchEntry.addressTest_noAddress {e : WatchEntry} (h : e.hasRange = true) {b : ObsBody} (ha : b.address = none) :
    e.addressTest b = false := by
  simp [WatchEntry.addressTest, h, ha]

/-- A burst of n beats from a, and the range from low to high, have a byte in common: where they do, the higher of a and low
is one. -/
theorem exists_common_byte_iff (a n low high : Nat) :
    (∃ x, a ≤ x ∧ x < a + 8 * n ∧ low ≤ x ∧ x ≤ high) ↔ 0 < n ∧ low ≤ high ∧ a ≤ high ∧ low < a + 8 * n := by
  constructor
  · rintro ⟨x, hax, hxn, hlow, hhigh⟩
    omega
  · intro h
    exact ⟨max a low, by omega⟩

theorem WatchEntry.addressTest_range {e : WatchEntry} (h : e.hasRange = true) {b : ObsBody} {a : Addr} {n : Nat}
    (ha : b.address = some a) (hn : b.beats = some n) : e.addressTest b = true ↔
      ∃ x : Nat, a.toNat ≤ x ∧ x < a.toNat + 8 * n ∧ e.low.toNat ≤ x ∧ x ≤ e.high.toNat := by
  simp [WatchEntry.addressTest, h, ha, hn, exists_common_byte_iff, and_assoc]

theorem WatchEntry.initiatorTest_none (e : WatchEntry) {b : ObsBody} (h : b.initiator = none) :
    e.initiatorTest b = true := by
  simp [WatchEntry.initiatorTest, h]

theorem WatchEntry.initiatorTest_some (e : WatchEntry) {b : ObsBody} {i : Initiator} (h : b.initiator = some i) :
    e.initiatorTest b = e.initiators.getLsbD i.toNat := by
  simp [WatchEntry.initiatorTest, h]

/-- The mask of initiators has no bit 15. -/
theorem WatchEntry.initiatorTest_fifteen (e : WatchEntry) {b : ObsBody} (h : b.initiator = some 15) :
    e.initiatorTest b = false :=
  (e.initiatorTest_some h).trans (BitVec.getLsbD_of_ge e.initiators 15 le_rfl)

theorem WatchEntry.statusTest_any {e : WatchEntry} (h : e.statusFilter? = some .any) (b : ObsBody) :
    e.statusTest b = true := by
  simp [WatchEntry.statusTest, h]

theorem WatchEntry.statusTest_okay {e : WatchEntry} (h : e.statusFilter? = some .okay) (b : ObsBody) :
    e.statusTest b = true ↔ b.status = some .okay := by
  simp [WatchEntry.statusTest, h]

theorem WatchEntry.statusTest_fault {e : WatchEntry} (h : e.statusFilter? = some .fault) (b : ObsBody) :
    e.statusTest b = true ↔ b.status = some .fault := by
  simp [WatchEntry.statusTest, h]

theorem WatchEntry.latencyTest_noFloor {e : WatchEntry} (h : e.floor = 0) (b : ObsBody) : e.latencyTest b = true := by
  simp [WatchEntry.latencyTest, h]

theorem WatchEntry.latencyTest_floor {e : WatchEntry} (h : e.floor ≠ 0) {b : ObsBody} {l : Nat}
    (hl : b.latency = some l) : e.latencyTest b = true ↔ e.floor.toNat ≤ l := by
  unfold WatchEntry.latencyTest
  rw [if_neg h, hl]
  exact decide_eq_true_iff

theorem WatchEntry.latencyTest_noLatency {e : WatchEntry} (h : e.floor ≠ 0) {b : ObsBody} (hl : b.latency = none) :
    e.latencyTest b = false := by
  unfold WatchEntry.latencyTest
  rw [if_neg h, hl]

/-- No floor of 24 bits lies above the saturated latency. -/
theorem WatchEntry.latencyTest_saturated (e : WatchEntry) {b : ObsBody} (hl : b.latency = some (2 ^ 24 - 1)) :
    e.latencyTest b = true := by
  by_cases h : e.floor = 0
  · exact WatchEntry.latencyTest_noFloor h b
  · exact (WatchEntry.latencyTest_floor h hl).2 (Nat.le_sub_one_of_lt e.floor.isLt)

/-! ## The data test (R55) -/

/-- Byte k of a cell holds the bits whose place is in it. -/
theorem getLsbD_byteOnes (k : Nat) {j : Nat} (hj : j < 64) :
    ((0xFF : Cell) <<< (8 * k)).getLsbD j = decide (j / 8 = k) := by
  have ones : (0xFF : Cell) = (BitVec.allOnes 8).setWidth 64 := by decide
  rw [ones, getLsbD_shifted _ _ hj, BitVec.testBit_toNat, BitVec.getLsbD_allOnes, Bool.eq_iff_iff]
  simp only [Bool.and_eq_true, decide_eq_true_eq]
  omega

/-- One byte of the beat added to a cell, where the beat's mask has it. -/
theorem getLsbD_addMaskedByte (b : Beat) (acc : Cell) (k : Nat) {j : Nat} (hj : j < 64) :
    (if b.mask.getLsbD k then acc ||| (b.value &&& ((0xFF : Cell) <<< (8 * k))) else acc).getLsbD j =
      (acc.getLsbD j || (decide (j / 8 = k) && (b.mask.getLsbD (j / 8) && b.value.getLsbD j))) := by
  by_cases hk : j / 8 = k
  · subst hk
    split
    · rw [BitVec.getLsbD_or, BitVec.getLsbD_and, getLsbD_byteOnes _ hj]
      simp [*]
    · simp [*]
  · split
    · rw [BitVec.getLsbD_or, BitVec.getLsbD_and, getLsbD_byteOnes _ hj]
      simp [hk]
    · simp [hk]

/-- The bits that the bytes of a list, where the beat's mask has them, add to a cell. -/
theorem getLsbD_foldl_maskedBytes (b : Beat) {j : Nat} (hj : j < 64) : ∀ (ks : List Nat) (acc : Cell),
    (ks.foldl (fun acc k => if b.mask.getLsbD k then acc ||| (b.value &&& ((0xFF : Cell) <<< (8 * k))) else acc)
      acc).getLsbD j =
      (acc.getLsbD j || (decide (j / 8 ∈ ks) && (b.mask.getLsbD (j / 8) && b.value.getLsbD j)))
  | [], acc => by simp
  | k :: ks, acc => by
    rw [List.foldl_cons, getLsbD_foldl_maskedBytes b hj ks, getLsbD_addMaskedByte b acc k hj, Bool.or_assoc,
      ← Bool.and_or_distrib_right]
    simp

/-- A bit outside the beat's byte mask is taken as zero. -/
theorem getLsbD_maskedValue (b : Beat) {j : Nat} (hj : j < 64) :
    (maskedValue b).getLsbD j = (b.mask.getLsbD (j / 8) && b.value.getLsbD j) := by
  have byte : j / 8 ∈ List.range 8 := List.mem_range.2 (by omega)
  rw [maskedValue, getLsbD_foldl_maskedBytes b hj]
  simp [byte]

theorem and_eq_and_iff_getLsbD {w : Nat} (x y m : BitVec w) :
    x &&& m = y &&& m ↔ ∀ k < w, m.getLsbD k = true → x.getLsbD k = y.getLsbD k := by
  refine ⟨fun h k _ hm => ?_, fun h => BitVec.eq_of_getLsbD_eq fun k hk => ?_⟩
  · simpa [hm] using congrArg (BitVec.getLsbD · k) h
  · cases hm : m.getLsbD k
    · simp [hm]
    · simp [hm, h k hk hm]

theorem WatchEntry.dataTest_of_noCompare {e : WatchEntry} (h : e.hasCompare = false) (beat : Option Beat) :
    e.dataTest beat = true := by
  simp [WatchEntry.dataTest, h]

theorem WatchEntry.dataTest_noBeat {e : WatchEntry} (h : e.hasCompare = true) : e.dataTest none = false := by
  simp [WatchEntry.dataTest, h]

theorem WatchEntry.dataTest_compare {e : WatchEntry} (h : e.hasCompare = true) (beat : Beat) :
    e.dataTest (some beat) = true ↔ ∀ k < 64, e.compareMask.getLsbD k = true →
      (beat.mask.getLsbD (k / 8) && beat.value.getLsbD k) = e.compareValue.getLsbD k := by
  simp only [WatchEntry.dataTest, h, if_true, beq_iff_eq, and_eq_and_iff_getLsbD]
  exact forall₂_congr fun k hk => by rw [getLsbD_maskedValue beat hk]

/-! ## The hit set (R49) -/

theorem WatchEntry.isHit_iff (e : WatchEntry) (b : ObsBody) (beat : Option Beat) : e.isHit b beat = true ↔
    e.enabled = true ∧ e.kindTest b = true ∧ e.addressTest b = true ∧ e.initiatorTest b = true ∧
      e.statusTest b = true ∧ e.latencyTest b = true ∧ e.dataTest beat = true := by
  simp only [WatchEntry.isHit, Bool.and_eq_true, and_assoc]

theorem getLsbD_setBit (m : BitVec 16) (k : Nat) {n : Nat} (hn : n < 16) :
    (m ||| (1 : BitVec 16) <<< k).getLsbD n = (m.getLsbD n || decide (k = n)) := by
  have one : (1 : BitVec 16) <<< k = BitVec.twoPow 16 k := (BitVec.twoPow_eq 16 k).symm
  rw [one, BitVec.getLsbD_or, BitVec.getLsbD_twoPow]
  by_cases hk : k = n <;> simp [hk, hn]

/-- Bits set one by one at the places of a list, counted from k: place n is set where it was, or where its member of the list
asks for it. -/
theorem getLsbD_foldl_setBits {α : Type} (p : α → Bool) {n : Nat} (hn : n < 16) :
    ∀ (l : List α) (k : Nat) (m : BitVec 16),
      ((l.zipIdx k).foldl (fun m q => if p q.1 then m ||| (1 : BitVec 16) <<< q.2 else m) m).getLsbD n = true ↔
        m.getLsbD n = true ∨ ∃ i x, l[i]? = some x ∧ k + i = n ∧ p x = true
  | [], k, m => by simp
  | x :: xs, k, m => by
    have head : (if p x then m ||| (1 : BitVec 16) <<< k else m).getLsbD n = true ↔
        m.getLsbD n = true ∨ (k = n ∧ p x = true) := by
      split
      · rw [getLsbD_setBit m k hn]
        simp [*]
      · simp [*]
    have shift : ∀ i, k + 1 + i = n ↔ k + (i + 1) = n := fun i => by omega
    rw [List.zipIdx_cons, List.foldl_cons, getLsbD_foldl_setBits p hn xs, head, or_assoc]
    simp only [shift, ← Nat.or_exists_add_one (p := fun i => ∃ y, (x :: xs)[i]? = some y ∧ k + i = n ∧ p y = true)]
    simp

/-- An entry's bit of the hit set is set exactly where that entry hits. -/
theorem getLsbD_hitSet (entries : List WatchEntry) (b : ObsBody) (beat : Option Beat) {n : Nat} (hn : n < 16) :
    (hitSet entries b beat).getLsbD n = true ↔ ∃ e, entries[n]? = some e ∧ e.isHit b beat = true := by
  rw [hitSet, getLsbD_foldl_setBits (fun e => WatchEntry.isHit e b beat) hn]
  simp

/-- Settles O45, test by test; the hit set's bits are set one by one along the table. -/
theorem watchTestsDecide : Obligations.WatchTestsDecide := by
  refine ⟨fun e b => ?_, fun e => ?_, fun entries b beat n hn => ?_⟩
  · exact ⟨e.kindTest_eq b,
      fun h => WatchEntry.addressTest_of_noRange h b,
      fun h => WatchEntry.addressTest_noAddress h,
      fun h a n => WatchEntry.addressTest_range h,
      e.initiatorTest_none,
      fun i h _ => e.initiatorTest_some h,
      e.initiatorTest_fifteen,
      fun h => WatchEntry.statusTest_any h b,
      fun h => WatchEntry.statusTest_okay h b,
      fun h => WatchEntry.statusTest_fault h b,
      fun h => WatchEntry.latencyTest_noFloor h b,
      fun h l => WatchEntry.latencyTest_floor h,
      fun h => WatchEntry.latencyTest_noLatency h,
      e.latencyTest_saturated⟩
  · exact ⟨WatchEntry.dataTest_of_noCompare, WatchEntry.dataTest_noBeat, WatchEntry.dataTest_compare⟩
  · simp only [getLsbD_hitSet entries b beat hn, WatchEntry.isHit_iff]

/-! ## What leaves the statistics alone -/

@[simp] theorem State.followHold_watchStats (s : State) : s.followHold.watchStats = s.watchStats := by
  have h : s.clearExpired.watchStats = s.watchStats := by rw [s.clearExpired_eq]
  unfold State.followHold
  dsimp only
  split
  · split <;> exact h
  · exact h

@[simp] theorem State.takeHead_watchStats (s : State) : s.takeHead.watchStats = s.watchStats := by
  unfold State.takeHead State.placeHead
  split
  · split
    · rfl
    · split <;> rfl
  · rfl

@[simp] theorem State.leaveCapture_watchStats (s : State) : s.leaveCapture.watchStats = s.watchStats := by
  unfold State.leaveCapture
  split <;> rfl

@[simp] theorem State.fileRecord_watchStats (s : State) (r : OpenRecord) :
    (s.fileRecord r).watchStats = s.watchStats := by
  unfold State.fileRecord
  dsimp only
  split <;> split <;> rfl

@[simp] theorem State.closeRecord_watchStats (s : State) (r : OpenRecord) :
    (s.closeRecord r).watchStats = s.watchStats := by
  unfold State.closeRecord
  dsimp only
  split <;> simp

@[simp] theorem State.fire_watchStats (s : State) (c : TriggerCause) (w : Bool) :
    (s.fire c w).watchStats = s.watchStats := by
  have opened : (s.openFor c w).watchStats = s.watchStats := rfl
  unfold State.fire
  split
  · dsimp only
    split <;> simp [opened]
  · rfl

/-- Step 3 of the path leaves the statistics as step 2 made them. -/
@[simp] theorem State.offer_watchStats (s : State) (o : Observation) : (s.offer o).state.watchStats = s.watchStats := by
  unfold State.offer
  split
  · rfl
  · split
    · rfl
    · dsimp only
      split
      · exact s.closeRecord_watchStats _
      · split
        · exact s.closeRecord_watchStats _
        · rfl

@[simp] theorem State.satisfyStage_watchStats (s : State) (n : Nat) (w : Bool) :
    (s.satisfyStage n w).watchStats = s.watchStats := by
  unfold State.satisfyStage
  split
  · rfl
  · exact s.fire_watchStats _ _
  · rfl

@[simp] theorem State.evaluateHits_watchStats (s : State) (a : ArmedStage) (d : StageDef) (o : Observation) :
    (s.evaluateHits a d o).watchStats = s.watchStats := by
  unfold State.evaluateHits
  dsimp only
  split
  · exact s.satisfyStage_watchStats _ _
  · rfl

/-- And so does step 5. -/
@[simp] theorem State.evaluateTrigger_watchStats (s : State) (o : Observation) :
    (s.evaluateTrigger o).watchStats = s.watchStats := by
  unfold State.evaluateTrigger
  split
  · rfl
  · dsimp only
    split
    · exact s.evaluateHits_watchStats _ _ _
    · split
      · exact s.satisfyStage_watchStats _ _
      · rfl
    · rfl
    · rfl
  · split <;> rfl

/-! ## The statistics (R57) -/

/-- An observation's whole path leaves the statistics as its step 2 makes them. -/
theorem State.observe_watchStats {s : State} {b : ObsBody} (beat : Option Beat) (h : ¬s.makesNone b) :
    (s.observe b beat).watchStats = hitStats s.watchStats (s.observationOf b beat) := by
  rw [State.observe_path beat h]
  dsimp only
  split <;> simp

theorem getElem?_hitStats {stats : List WatchStat} {n : Nat} {w : WatchStat} (h : stats[n]? = some w)
    (o : Observation) : (hitStats stats o)[n]? = some (if o.hits.getLsbD n then w.hit o else w) := by
  simp [hitStats, h]

theorem satSucc_eq (x : Word) : satSucc x = if x = 0xFFFFFFFF then 0xFFFFFFFF else x + 1 :=
  ite_congr rfl id fun _ => rfl

/-- A hit's statistics: the count saturates, and the sequence number is taken even then. -/
theorem WatchStat.hit_eq (w : WatchStat) (o : Observation) : w.hit o =
    { hits := if w.hits = 0xFFFFFFFF then 0xFFFFFFFF else w.hits + 1
      lastSequence := some o.sequence
      maxLatency := match o.body.latency, w.maxLatency with
        | none, m => m
        | some l, none => some l
        | some l, some m => some (max m l) } := by
  unfold WatchStat.hit
  rw [satSucc_eq]
  cases o.body.latency <;> cases w.maxLatency <;> rfl

/-- Settles O20: only step 2 of the path touches the statistics, and it makes each entry's by the hit set. -/
theorem hitStatisticsFollowHits : Obligations.HitStatisticsFollowHits := by
  intro s b beat n w hm hw
  rw [State.observe_watchStats beat hm, getElem?_hitStats hw, WatchStat.hit_eq]
  rfl

end Sys2Proof.Machine
end

section
/-! SUPPORT. The trigger unit's own commands: what ARM, DISARM, FORCE and an edge of TRIGIN are to the unit, and how the
frame of a command ends. -/

namespace Sys2Proof.Machine

-- One theorem at a time: each would otherwise hold a thread of its own.
set_option Elab.async false

/-! ## Frames and the unit -/

theorem exec_arm {s : State} {f : Frame} (h : s.takesFrame f 1) :
    exec (.arm f) s = .next (s.beginEvent.armUnit.1.answer f [] s.beginEvent.armUnit.2) :=
  (exec_running h.1 (by simp) (by simp)).trans (congrArg _ (State.frame_taken h _))

theorem exec_disarm {s : State} {f : Frame} (h : s.takesFrame f 1) :
    exec (.disarm f) s = .next (s.beginEvent.disarmUnit.answer f [] .done) :=
  (exec_running h.1 (by simp) (by simp)).trans (congrArg _ (State.doneFrame_taken h _))

theorem exec_force {s : State} {f : Frame} (h : s.takesFrame f 1) : exec (.force f) s =
    .next ((s.beginEvent.forceUnit .forcePort).1.answer f [] (s.beginEvent.forceUnit .forcePort).2) :=
  (exec_running h.1 (by simp) (by simp)).trans (congrArg _ (State.frame_taken h fun t => t.forceUnit .forcePort))

/-! ## The results of ARM and FORCE (R77, R79) -/

theorem State.armUnit_done {s : State}
    (h : s.trigger.state ≠ .disarmed ∨ s.config.active.mode? = some .observe) : s.armUnit.2 = .done := by
  unfold State.armUnit
  split
  · rename_i ht
    rw [if_pos (h.resolve_left fun hn => hn ht)]
  · rfl
  · rfl

theorem State.armUnit_refused {s : State} (h : s.trigger.state = .disarmed)
    (hm : s.config.active.mode? ≠ some .observe) : s.armUnit.2 = .refused := by
  unfold State.armUnit
  rw [h]
  exact congrArg Prod.snd (if_neg hm)

theorem State.forceUnit_done {s : State} (c : TriggerCause) (h : s.trigger.state ≠ .disarmed) :
    (s.forceUnit c).2 = .done := by
  unfold State.forceUnit
  split
  · exact absurd ‹_› h
  · rfl
  · rfl

theorem State.forceUnit_refused {s : State} (c : TriggerCause) (h : s.trigger.state = .disarmed) :
    (s.forceUnit c).2 = .refused := by
  unfold State.forceUnit
  rw [h]

/-! ## ARM and DISARM -/

/-- A frame's answer may come before or after the close of an aborted record. -/
theorem State.answer_recordAborted (s : State) (r : OpenRecord) (f : Frame) (data : List Byte) (res : Result) :
    (s.recordClosed { r with aborted := true } .disarmed).answer f data res =
      (s.answer f data res).recordClosed { r with aborted := true } .disarmed := by
  have closed : ∀ t : State,
      t.closeRecord { r with aborted := true } = t.recordClosed { r with aborted := true } .disarmed :=
    fun t => t.closeRecord_eq _
  rw [← closed, ← closed, State.answer_closeRecord]

/-- Settles O26: the unit's change and its result, by the state of the unit; the answer of the frame may come before the
close. -/
theorem armAndDisarmCommandsAct : Obligations.ArmAndDisarmCommandsAct := by
  intro s f h
  rw [exec_arm h, exec_disarm h]
  refine ⟨fun hd hm => ?_, fun hd hm => ?_, fun hd => ?_, fun hd => ?_, fun a ha => ?_, fun r hc hr => ?_⟩
  · rw [State.armUnit_arms (s := s.beginEvent) hd hm, State.armUnit_done (s := s.beginEvent) (.inr hm)]
    rfl
  · have pass : s.beginEvent.config.active.mode? ≠ some .observe := by
      change s.config.active.mode? ≠ some .observe
      simp [hm]
    rw [State.armUnit_stays (.inr pass), State.armUnit_refused (s := s.beginEvent) hd pass]
    rfl
  · rw [State.armUnit_stays (s := s.beginEvent) (.inl hd), State.armUnit_done (s := s.beginEvent) (.inl hd)]
    rfl
  · rw [State.disarmUnit_disarmed (s := s.beginEvent) hd]
    rfl
  · rw [State.disarmUnit_armed (s := s.beginEvent) ha]
    rfl
  · rw [State.disarmUnit_capturing (s := s.beginEvent) hc hr, State.answer_recordAborted]
    rfl

/-! ## FORCE -/

/-- Settles O27: the unit's change and its result, by its state; the answer of the frame may come before a fire. -/
theorem forceCommandActs : Obligations.ForceCommandActs := by
  intro s f h p again
  rw [exec_force h]
  refine ⟨fun hd => ?_, fun r hc hr => ?_, fun a ha => ⟨(s.replied f [] .done).fire .forcePort false, ?_, ?_⟩⟩
  · rw [State.forceUnit_disarmed (s := s.beginEvent) _ hd, State.forceUnit_refused (s := s.beginEvent) _ hd]
    rfl
  · rw [State.forceUnit_capturing (s := s.beginEvent) _ hc hr,
      State.forceUnit_done (s := s.beginEvent) _ (by exact ne_of_eq_of_ne hc (by simp))]
    rfl
  · rw [State.forceUnit_armed (s := s.beginEvent) _ ha,
      State.forceUnit_done (s := s.beginEvent) _ (by exact ne_of_eq_of_ne ha (by simp)), State.answer_fire]
    rfl
  · exact State.fire_gives _ _ _

/-! ## A rise of TRIGIN (R80, log entry 9) -/

/-- The state with TRIGIN seen low for a tick. -/
def State.triginSeenLow (s : State) : State := { s with trigger := { s.trigger with lineSeenLow := true } }

/-- A low tick before the rise and a high tick after it make an edge. -/
theorem State.triginRise_edge (s : State) : s.triginRise ⟨true, true⟩ = s.triginSeenLow.triginEdgeSeen := by
  simp [State.triginRise, riseSeen, riseIsFree, State.spendChoices, State.triginSeenLow]

/-- The rise of a line not yet seen low for a tick is no edge. -/
theorem State.triginRise_neverLow {s : State} {l : LineRise} (hs : s.trigger.lineSeenLow = false)
    (hl : l.lowTick = false) : s.triginRise l = s := by
  have kept : ({ s.trigger with lineSeenLow := false } : TriggerUnit) = s.trigger := by rw [← hs]
  simp [State.triginRise, riseSeen, riseIsFree, State.spendChoices, hs, hl, kept]

/-- Any other rise after a gap, or of a pulse, shorter than a tick spends a free choice, and that says whether it is an
edge. -/
theorem State.triginRise_short {s : State} {l : LineRise} (hshort : l.lowTick = false ∨ l.highTick = false)
    (hlow : s.trigger.lineSeenLow = true ∨ l.lowTick = true) : s.triginRise l =
      if Config.edgeSeen s.freeIndex = true then (s.spendChoices 1).triginSeenLow.triginEdgeSeen
      else (s.spendChoices 1).triginSeenLow := by
  have low : (s.trigger.lineSeenLow || l.lowTick) = true := Bool.or_eq_true_iff.2 hlow
  have short : (l.lowTick && l.highTick) = false := Bool.and_eq_false_iff.2 hshort
  have never : (!s.trigger.lineSeenLow && !l.lowTick) = false := by rw [← Bool.not_or, low]; rfl
  simp [State.triginRise, riseSeen, riseIsFree, State.triginSeenLow, low, short, never]

/-! ## An edge that is seen (R80) -/

theorem State.triginEdgeSeen_ignored {s : State}
    (h : s.config.active.triginMode? = some .off ∨ s.trigger.state = .disarmed) : s.triginEdgeSeen = s := by
  unfold State.triginEdgeSeen
  rcases h with h | h
  · rw [h]
  · rw [h]
    cases s.config.active.triginMode? with
    | none => rfl
    | some m => cases m <;> rfl

theorem State.triginEdgeSeen_line {s : State} {a : ArmedStage} (ha : s.trigger.state = .armed a)
    (hm : s.config.active.triginMode? = some .stage)
    (hc : (s.config.active.stage a.stage).condition? = some .line) :
    s.triginEdgeSeen = s.satisfyStage a.stage false := by
  unfold State.triginEdgeSeen
  rw [hm, ha]
  exact if_pos hc

theorem State.triginEdgeSeen_notLine {s : State} {a : ArmedStage} (ha : s.trigger.state = .armed a)
    (hm : s.config.active.triginMode? = some .stage)
    (hc : (s.config.active.stage a.stage).condition? ≠ some .line) : s.triginEdgeSeen = s := by
  unfold State.triginEdgeSeen
  rw [hm, ha]
  exact if_neg hc

theorem State.triginEdgeSeen_direct {s : State} {a : ArmedStage} (ha : s.trigger.state = .armed a)
    (hm : s.config.active.triginMode? = some .direct) : s.triginEdgeSeen = s.fire .lineDirect false := by
  unfold State.triginEdgeSeen
  rw [hm, ha]

theorem State.triginEdgeSeen_capturing {s : State} (hc : s.trigger.state = .capturing)
    (hm : s.config.active.triginMode? = some .stage ∨ s.config.active.triginMode? = some .direct) :
    s.triginEdgeSeen = s.retrigger := by
  unfold State.triginEdgeSeen
  rcases hm with hm | hm <;> rw [hm, hc]

theorem State.retrigger_open {s : State} {r : OpenRecord} (h : s.store.openRecord = some r) :
    s.retrigger = ({ s with store := { s.store with
      openRecord := some (r.retriggered s.config.active) } } : State).count .nested := by
  unfold State.retrigger
  rw [h]
  rfl

/-- Settles O25: an edge is seen or it is not, and a seen one acts by the mode and the unit's state. -/
theorem triginEdgeActsByMode : Obligations.TriginEdgeActsByMode := by
  intro s h t p again
  have rise : ∀ l, exec (.triginEdge l) s = .next (s.beginEvent.triginRise l) := fun l =>
    exec_running h (by simp) (by simp)
  have seen : exec (.triginEdge ⟨true, true⟩) s = .next t.triginEdgeSeen :=
    (rise _).trans (congrArg _ (State.triginRise_edge _))
  refine ⟨fun hi => ?_,
    fun a ha hm => ⟨fun hc hn => ?_, fun hc hf => ⟨t.fire .stage false, ?_, t.fire_gives _ _⟩, fun hc => ?_⟩,
    fun a ha hm => ⟨t.fire .lineDirect false, ?_, t.fire_gives _ _⟩,
    fun r hc hr hm => ?_,
    fun l hshort => ⟨fun hs hl => ?_, fun hlow => ?_⟩⟩
  · rw [seen, State.triginEdgeSeen_ignored (s := t) hi]
  · rw [seen, State.triginEdgeSeen_line (s := t) ha hm hc, State.satisfyStage_next (s := t) hn, State.enterStage_succ]
    rfl
  · rw [seen, State.triginEdgeSeen_line (s := t) ha hm hc, State.satisfyStage_fire (s := t) hf]
  · rw [seen, State.triginEdgeSeen_notLine (s := t) ha hm hc]
  · rw [seen, State.triginEdgeSeen_direct (s := t) ha hm]
  · rw [seen, State.triginEdgeSeen_capturing (s := t) hc hm, State.retrigger_open (s := t) hr]
    rfl
  · rw [rise, State.triginRise_neverLow (s := s.beginEvent) hs hl]
  · have later : exec (.triginEdge ⟨true, true⟩) { s with freeIndex := s.freeIndex + 1 } =
        .next (s.beginEvent.spendChoices 1).triginSeenLow.triginEdgeSeen :=
      (exec_running (by exact h) (by simp) (by simp)).trans (congrArg _ (State.triginRise_edge _))
    rw [rise, State.triginRise_short (s := s.beginEvent) hshort hlow, later]
    split
    · exact .inr rfl
    · exact .inl rfl

end Sys2Proof.Machine
end

section
/-! SUPPORT. The formats of records and of the ring's words: a cell's fields by their places, and a closed record's length in
its reservation. -/

namespace Sys2Proof.Machine

-- One theorem at a time: each would otherwise hold a thread of its own.
set_option Elab.async false

/-! ## Fields of a cell -/

/-- A cell field is the one field of its cell. -/
theorem hasFields_cellField {n v : Nat} (lo : Nat) (x : BitVec n) (hv : x.toNat = v := by rfl) :
    hasFields (cellField lo x) [(lo, n, v)] := fun k hk => by
  rw [getLsbD_cellField lo x hk, hv]
  simp [Bool.and_assoc]

/-- So is a field that a number fills, cut to the field's width. -/
theorem hasFields_cellField_ofNat (n lo x : Nat) : hasFields (cellField lo (BitVec.ofNat n x)) [(lo, n, x)] :=
  fun k hk => by
    rw [getLsbD_cellField_ofNat n lo x hk]
    simp [Bool.and_assoc]

theorem hasFields_cellFlag {v : Nat} (lo : Nat) (b : Bool) (hv : b.toNat = v := by rfl) :
    hasFields (cellFlag lo b) [(lo, 1, v)] := fun k hk => by
  rw [getLsbD_cellFlag lo b hk, hv]
  simp [Bool.and_assoc]

/-- A field whose value is 0 sets no bit. -/
theorem hasFields_cellField_zero (n lo : Nat) : hasFields (cellField lo (0 : BitVec n)) [] := fun k hk => by
  rw [getLsbD_cellField lo _ hk]
  simp

/-- Cells joined have the fields of both; the fields of the later one come first among the hypotheses. -/
theorem hasFields_or {a b : Cell} {fs gs : List (Nat × Nat × Nat)} (hb : hasFields b gs) (ha : hasFields a fs) :
    hasFields (a ||| b) (fs ++ gs) := fun k hk => by
  rw [BitVec.getLsbD_or, ha k hk, hb k hk, List.any_append]

/-! ## The size of a record (R86, R92, R100) -/

theorem Observation.cells_length (o : Observation) : o.cells.length = 3 + o.dataBeat.isSome.toNat := by
  unfold Observation.cells
  cases o.dataBeat <;> rfl

theorem flatMap_cells_length : ∀ l : List Observation,
    (l.flatMap Observation.cells).length = 3 * l.length + l.countP fun o => o.dataBeat.isSome
  | [] => rfl
  | o :: l => by
    rw [List.flatMap_cons, List.length_append, o.cells_length, flatMap_cells_length l, List.countP_cons]
    cases o.dataBeat <;> simp <;> omega

/-- A closed record has as many cells as its length says. -/
theorem OpenRecord.cells_length (r : OpenRecord) : r.cells.length = r.length := by
  have header : r.headerCells.length = 4 := rfl
  simp only [OpenRecord.cells, OpenRecord.bodyCells, List.length_append, header, flatMap_cells_length,
    OpenRecord.length, OpenRecord.dataBeats, List.length_singleton]
  omega

theorem ParamSet.dataCells_eq_zero_or_one (p : ParamSet) : p.dataCells = 0 ∨ p.dataCells = 1 := by
  unfold ParamSet.dataCells
  split <;> simp

/-- A record of at most MAX_OBS observations, with no data beat while d is 0, fits in R cells. -/
theorem OpenRecord.length_le_reservation {r : OpenRecord} {p : ParamSet} (hn : r.observations.length ≤ p.maxObs.toNat)
    (hd : p.dataCells = 0 → r.dataBeats = 0) : r.length ≤ p.reservation := by
  have hb : r.dataBeats ≤ r.observations.length := List.countP_le_length
  unfold OpenRecord.length ParamSet.reservation
  rcases p.dataCells_eq_zero_or_one with h | h
  · rw [h, hd h]
    omega
  · rw [h]
    omega

/-! ## The codes of 11.1 -/

theorem TriggerCause.code_toNat (c : TriggerCause) : c.code.toNat = (match c with
    | .stage => 0
    | .lineDirect => 1
    | .forcePort => 2
    | .forceWord => 3) := by
  cases c <;> rfl

theorem ObsKind.code_toNat (k : ObsKind) : k.code.toNat = (match k with
    | .read => 0
    | .write => 1
    | .declined => 2
    | .overdue => 3
    | .late => 4
    | .orphan => 5
    | .mark => 6) := by
  cases k <;> rfl

/-- An absent access has the code of a READ, as the cell's field has. -/
theorem accessCode_toNat (a : Option Access) : ((a.map accessCode).getD 0).toNat = (match a with
    | some .write => 1
    | some .read => 0
    | none => 0) := by
  rcases a with _ | _ | _ <;> rfl

theorem statusCode_toNat (s : Option Status) : (statusCode s).toNat = (match s with
    | none => 0
    | some .okay => 1
    | some .fault => 2) := by
  rcases s with _ | _ | _ <;> rfl

theorem ObsBody.detail_toNat (b : ObsBody) : b.detail.toNat = (match b.kind with
    | .read | .write => (b.overdueSeen.getD false).toNat
    | .overdue => (b.withdrawn.getD false).toNat
    | .declined => (match b.reason with
      | none => 0
      | some .initiator => 1
      | some .boundary => 2
      | some .window => 3)
    | .mark => (match b.cause with
      | none => 0
      | some .slip => 0
      | some .syncLost => 1
      | some .epoch => 2
      | some .software => 3)
    | .late | .orphan => 0) := by
  have flag : ∀ f : Bool, ((BitVec.ofBool f).setWidth 2).toNat = f.toNat := by decide
  unfold ObsBody.detail
  cases b.kind with
  | read | write => exact flag _
  | overdue => exact flag _
  | declined => rcases b.reason with _ | _ | _ | _ <;> rfl
  | mark => rcases b.cause with _ | _ | _ | _ | _ <;> rfl
  | late | orphan => rfl

/-! ## The cells of a record, field by field (R102, R103, 11.1) -/

section fields

variable (r : OpenRecord) (o : Observation)

theorem OpenRecord.firstSequence_isSome :
    r.firstSequence.isSome = (r.observations.head?.map fun o => o.sequence.toNat).isSome := by
  simp [OpenRecord.firstSequence]

theorem OpenRecord.firstSequence_toNat :
    (r.firstSequence.getD 0).toNat = (r.observations.head?.map fun o => o.sequence.toNat).getD 0 := by
  unfold OpenRecord.firstSequence
  cases r.observations.head? <;> rfl

theorem OpenRecord.dataBeats_flag : (r.dataBeats != 0) = decide (0 < r.dataBeats) := by
  rw [Bool.eq_iff_iff]
  simp [Nat.pos_iff_ne_zero]

/-- The number and the length of the record, with the header's type and the format version. -/
theorem OpenRecord.headerCell0_fields : hasFields (r.headerCells.getD 0 0)
    [(0, 8, 0x52), (8, 8, 1), (16, 13, r.length), (32, 32, r.number.toNat)] :=
  hasFields_or (hasFields_cellField 32 _) <| hasFields_or (hasFields_cellField_ofNat 13 16 _) <|
    hasFields_or (hasFields_cellField 8 _) <| hasFields_cellField 0 _

/-- The counts and the flags of the record. -/
theorem OpenRecord.headerCell2_fields : hasFields (r.headerCells.getD 2 0)
    [(0, 16, r.generation.toNat), (16, 11, r.observations.length), (27, 9, r.preCount),
      (36, 8, r.triggerIndex.getD 0), (44, 1, r.triggerIndex.isSome.toNat), (45, 2, r.cause.code.toNat),
      (47, 1, r.firstSequence.isSome.toNat), (48, 8, r.nested), (56, 1, r.truncated.toNat), (57, 1, r.aborted.toNat),
      (58, 1, r.extended.toNat), (59, 1, (decide (0 < r.dataBeats)).toNat), (60, 1, r.epochChanged.toNat)] :=
  hasFields_or (hasFields_cellFlag 60 _) <| hasFields_or (hasFields_cellFlag 59 _ (congrArg _ r.dataBeats_flag)) <|
    hasFields_or (hasFields_cellFlag 58 _) <| hasFields_or (hasFields_cellFlag 57 _) <|
    hasFields_or (hasFields_cellFlag 56 _) <| hasFields_or (hasFields_cellField_ofNat 8 48 _) <|
    hasFields_or (hasFields_cellFlag 47 _) <| hasFields_or (hasFields_cellField 45 _) <|
    hasFields_or (hasFields_cellFlag 44 _) <| hasFields_or (hasFields_cellField_ofNat 8 36 _) <|
    hasFields_or (hasFields_cellField_ofNat 9 27 _) <| hasFields_or (hasFields_cellField_ofNat 11 16 _) <|
    hasFields_cellField 0 _

/-- The CRC-32 over the bytes of every cell before it, and the length again. -/
theorem OpenRecord.trailerCell_fields : hasFields r.trailerCell
    [(0, 32, (crcByGenerator (r.bodyCells.flatMap cellBytes)).toNat), (32, 13, r.length), (56, 8, 0x54)] :=
  hasFields_or (hasFields_cellField 56 _) <| hasFields_or (hasFields_cellField_ofNat 13 32 _) <|
    hasFields_cellField 0 _ (congrArg _ (crc32_eq_crcByGenerator _))

/-- What happened, and to whom. -/
theorem Observation.cell0_fields : hasFields o.cell0
    [(0, 32, o.sequence.toNat), (32, 16, o.hits.toNat), (48, 3, o.body.kind.code.toNat),
      (51, 1, ((o.body.access.map accessCode).getD 0).toNat), (52, 4, (o.body.initiator.getD 0).toNat),
      (56, 6, (o.body.tag.getD 0).toNat), (62, 2, o.body.detail.toNat)] :=
  hasFields_or (hasFields_cellField 62 _) <| hasFields_or (hasFields_cellField 56 _) <|
    hasFields_or (hasFields_cellField 52 _) <| hasFields_or (hasFields_cellField 51 _) <|
    hasFields_or (hasFields_cellField 48 _) <| hasFields_or (hasFields_cellField 32 _) <| hasFields_cellField 0 _

/-- When it happened, its status and its data beat's mask. -/
theorem Observation.cell1_fields : hasFields o.cell1
    [(0, 48, o.timestamp.toNat), (48, 5, o.body.beats.getD 0), (53, 2, (statusCode o.body.status).toNat),
      (55, 1, o.dataBeat.isSome.toNat), (56, 8, ((o.dataBeat.map Beat.mask).getD 0).toNat)] :=
  hasFields_or (hasFields_cellField 56 _) <| hasFields_or (hasFields_cellFlag 55 _) <|
    hasFields_or (hasFields_cellField 53 _) <| hasFields_or (hasFields_cellField_ofNat 5 48 _) <|
    hasFields_cellField 0 _

/-- Its address and its latency. -/
theorem Observation.cell2_fields (h : o.body.markValue = none) : hasFields o.cell2
    [(0, 40, (o.body.address.getD 0).toNat), (40, 24, o.body.latency.getD 0)] := by
  unfold Observation.cell2
  rw [h]
  exact hasFields_or (hasFields_cellField_ofNat 24 40 _) <| hasFields_or (hasFields_cellField_zero 32 0) <|
    hasFields_cellField 0 _

/-- A software mark's value stands in the address's place. -/
theorem Observation.cell2_fields_mark {v : Word} (h : o.body.markValue = some v) (ha : o.body.address = none) :
    hasFields o.cell2 [(0, 32, v.toNat), (40, 24, o.body.latency.getD 0)] := by
  unfold Observation.cell2
  rw [h, ha]
  exact hasFields_or (hasFields_cellField_ofNat 24 40 _) <| hasFields_or (hasFields_cellField 0 _) <|
    hasFields_cellField_zero 40 0

end fields

/-- Settles O46: a record's cells are joined from their fields, its length counts its cells, and the CRC-32 is the
generator's. -/
theorem recordFitsReservation : Obligations.RecordFitsReservation := by
  refine ⟨fun r p => ?_, fun o => ⟨o.cell0, o.cell1, o.cell2, ?_, ?_, ?_, ?_, ?_⟩, fun c => rfl,
    fun area producer wrap => ⟨?_, ?_, ?_⟩⟩
  · have flags := r.headerCell2_fields
    rw [r.cause.code_toNat, r.firstSequence_isSome] at flags
    refine ⟨rfl, rfl, r.cells_length, rfl, fun hn hd => OpenRecord.length_le_reservation hn hd,
      _, _, _, _, r.trailerCell, rfl, r.headerCell0_fields, ?_, flags, ?_, r.trailerCell_fields⟩
    · exact hasFields_or (hasFields_cellField 48 _) (hasFields_cellField 0 _)
    · exact hasFields_or (hasFields_cellField 32 _ r.firstSequence_toNat) (hasFields_cellField 0 _)
  · unfold Observation.cells
    cases o.dataBeat <;> rfl
  · have happened := o.cell0_fields
    rw [o.body.kind.code_toNat, accessCode_toNat, o.body.detail_toNat] at happened
    exact happened
  · have timed := o.cell1_fields
    rw [statusCode_toNat] at timed
    cases hb : o.dataBeat <;> rw [hb] at timed <;> exact timed
  · exact o.cell2_fields
  · exact fun v => o.cell2_fields_mark
  · exact hasFields_or (hasFields_cellField_ofNat 32 32 _) (hasFields_cellField 0 _)
  · exact hasFields_or (hasFields_cellField 32 _) (hasFields_cellField_ofNat 32 0 _)
  · exact hasFields_or (hasFields_cellField 8 _) (hasFields_cellField 0 _)

end Sys2Proof.Machine
end

section
/-! SUPPORT. The pre part walk: the run of newest entries that it claims, what it keeps of them, and where it ends. -/

namespace Sys2Proof.Machine

-- One theorem at a time: each would otherwise hold a thread of its own.
set_option Elab.async false

/-! ## A walk, entry by entry (R91) -/

section walk

variable {p : ParamSet} {limit : Nat} {e : RingEntry} {kept : List Observation}

theorem preWalk_stop (h : limit ≤ kept.length ∨ e.claimed = true) (es : List RingEntry) :
    preWalk p limit (e :: es) kept = (e :: es, kept, 0) := by
  rw [preWalk, if_pos h]

theorem preWalk_suppressed (h : ¬(limit ≤ kept.length ∨ e.claimed = true)) (hs : suppresses p e.obs = true)
    (es : List RingEntry) : preWalk p limit (e :: es) kept =
      ({ e with claimed := true } :: (preWalk p limit es kept).1, (preWalk p limit es kept).2.1,
        (preWalk p limit es kept).2.2 + 1) := by
  rw [preWalk, if_neg h, if_pos hs]

theorem preWalk_kept (h : ¬(limit ≤ kept.length ∨ e.claimed = true)) (hs : ¬suppresses p e.obs = true)
    (es : List RingEntry) : preWalk p limit (e :: es) kept =
      ({ e with claimed := true } :: (preWalk p limit es (e.obs :: kept)).1, (preWalk p limit es (e.obs :: kept)).2.1,
        (preWalk p limit es (e.obs :: kept)).2.2) := by
  rw [preWalk, if_neg h, if_neg hs]

end walk

/-! ## The run that a walk claims -/

/-- A walk over `ring`, with `kept` already, leaves `w`: the `m` newest entries claimed, those not suppressed kept in
sequence order before the others, the suppressed counted. Before each of the `m` fewer than `limit` were kept, and the walk
ends at the limit, at a claimed entry or at the oldest. -/
structure WalkClaims (p : ParamSet) (limit : Nat) (ring : List RingEntry) (kept : List Observation)
    (w : List RingEntry × List Observation × Nat) (m : Nat) : Prop where
  le : m ≤ ring.length
  room : ∀ j < m, kept.length + ((ring.take j).countP fun e => !suppresses p e.obs) < limit
  unclaimed : ∀ e ∈ ring.take m, e.claimed = false
  ring_eq : w.1 = ((ring.take m).map fun e => { e with claimed := true }) ++ ring.drop m
  kept_eq : w.2.1 = (((ring.take m).map (·.obs)).filter fun o => !suppresses p o).reverse ++ kept
  suppressed_eq : w.2.2 = ((ring.take m).map (·.obs)).countP (suppresses p)
  ends : limit ≤ w.2.1.length ∨ m = ring.length ∨ ∃ e, ring[m]? = some e ∧ e.claimed = true

/-- A walk that ends before its first entry claims none. -/
theorem WalkClaims.none {p : ParamSet} {limit : Nat} {ring : List RingEntry} {kept : List Observation}
    (h : limit ≤ kept.length ∨ 0 = ring.length ∨ ∃ e, ring[0]? = some e ∧ e.claimed = true) :
    WalkClaims p limit ring kept (ring, kept, 0) 0 where
  le := Nat.zero_le _
  room := fun _ hj => absurd hj (Nat.not_lt_zero _)
  unclaimed := fun _ he => by simp at he
  ring_eq := by simp
  kept_eq := by simp
  suppressed_eq := by simp
  ends := h

/-- A walk that claims its first entry goes on with the rest. -/
theorem WalkClaims.cons {p : ParamSet} {limit m : Nat} {e : RingEntry} {es : List RingEntry}
    {kept kept' : List Observation} {w : List RingEntry × List Observation × Nat}
    (hk : kept' = if suppresses p e.obs then kept else e.obs :: kept) (hroom : kept.length < limit)
    (he : e.claimed = false) (hw : WalkClaims p limit es kept' w m) :
    WalkClaims p limit (e :: es) kept
      ({ e with claimed := true } :: w.1, w.2.1, w.2.2 + (suppresses p e.obs).toNat) (m + 1) where
  le := Nat.succ_le_succ hw.le
  room := fun j hj => by
    cases j with
    | zero => simpa using hroom
    | succ j =>
      have := hw.room j (Nat.lt_of_succ_lt_succ hj)
      rw [hk] at this
      cases hs : suppresses p e.obs <;> simp [hs] at this ⊢ <;> omega
  unclaimed := fun x hx => by
    rcases List.mem_cons.1 (List.take_succ_cons ▸ hx) with rfl | hx
    · exact he
    · exact hw.unclaimed x hx
  ring_eq := by simp [hw.ring_eq]
  kept_eq := by
    rw [hw.kept_eq, hk]
    cases hs : suppresses p e.obs <;> simp [hs]
  suppressed_eq := by
    rw [hw.suppressed_eq]
    cases hs : suppresses p e.obs <;> simp [hs]
  ends := by simpa using hw.ends

theorem preWalk_claims (p : ParamSet) (limit : Nat) : ∀ (ring : List RingEntry) (kept : List Observation),
    ∃ m, WalkClaims p limit ring kept (preWalk p limit ring kept) m
  | [], kept => ⟨0, .none (.inr (.inl rfl))⟩
  | e :: es, kept => by
    by_cases h : limit ≤ kept.length ∨ e.claimed = true
    · rw [preWalk_stop h]
      exact ⟨0, .none (h.imp_right fun hc => .inr ⟨e, rfl, hc⟩)⟩
    obtain ⟨hroom, he⟩ := not_or.1 h
    by_cases hs : suppresses p e.obs = true
    · obtain ⟨m, hw⟩ := preWalk_claims p limit es kept
      rw [preWalk_suppressed h hs]
      have := WalkClaims.cons (by rw [if_pos hs]) (Nat.not_le.1 hroom) (by simpa using he) hw
      rw [hs] at this
      exact ⟨m + 1, this⟩
    · obtain ⟨m, hw⟩ := preWalk_claims p limit es (e.obs :: kept)
      rw [preWalk_kept h hs]
      have := WalkClaims.cons (by rw [if_neg hs]) (Nat.not_le.1 hroom) (by simpa using he) hw
      rw [Bool.eq_false_of_not_eq_true hs] at this
      exact ⟨m + 1, this⟩

/-- A walk never keeps more than its limit. -/
theorem preWalk_kept_le (p : ParamSet) (limit : Nat) : ∀ (ring : List RingEntry) {kept : List Observation},
    kept.length ≤ limit → (preWalk p limit ring kept).2.1.length ≤ limit
  | [], _, h => h
  | e :: es, kept, h => by
    by_cases hstop : limit ≤ kept.length ∨ e.claimed = true
    · rw [preWalk_stop hstop]
      exact h
    by_cases hs : suppresses p e.obs = true
    · rw [preWalk_suppressed hstop hs]
      exact preWalk_kept_le p limit es h
    · rw [preWalk_kept hstop hs]
      exact preWalk_kept_le p limit es (Nat.not_le.1 (not_or.1 hstop).1)

/-- Settles O28: a walk claims a run of the newest entries, by induction along the ring. -/
theorem prePartWalkTakesNewestRun : Obligations.PrePartWalkTakesNewestRun := by
  refine ⟨suppresses_iff, fun p limit ring => ?_⟩
  obtain ⟨m, hw⟩ := preWalk_claims p limit ring []
  have hle := preWalk_kept_le p limit ring (kept := []) (Nat.zero_le limit)
  refine ⟨m, hw.le, fun j hj => by simpa using hw.room j hj, hw.unclaimed, hw.ring_eq, by simpa using hw.kept_eq,
    hw.suppressed_eq, hle, hw.ends.imp_left hle.antisymm⟩

end Sys2Proof.Machine
end

section
/-! SUPPORT. The head of the directory at the management port: READ_RECORD's stream and DISCARD_HEAD. -/

namespace Sys2Proof.Machine

-- One theorem at a time: each would otherwise hold a thread of its own.
set_option Elab.async false

section route

variable {s : State}

theorem State.routeIsPort_port (h : s.config.active.drainRoute? = some .port) : s.routeIsPort = true := by
  simp [State.routeIsPort, h]

theorem State.routeIsPort_spill (h : s.config.active.drainRoute? = some .spill) : s.routeIsPort = false := by
  simp [State.routeIsPort, h]

/-! ## READ_RECORD (R105) -/

/-- A frame that the port takes sends the stream and ends with its result. -/
theorem exec_readRecord {f : Frame} (h : s.takesFrame f 3) (offset : BitVec 16) (left : Option Nat) :
    exec (.readRecord f offset left) s = .next
      (s.replied f (s.recordStream offset.toNat left).1 (s.recordStream offset.toNat left).2) := by
  obtain ⟨hr, hq, hb, h1, hn⟩ := h
  have hq' : s.beginEvent.quiescing = false := hq
  have h0 : f.bytes ≠ 0 := Nat.one_le_iff_ne_zero.1 h1
  rw [exec_running hr (by simp) (by simp)]
  simp only [Instr.effect, State.recordFrame, if_neg h0, State.judgesBusy, hb, hq', Bool.or_self, Bool.false_eq_true,
    if_false, if_neg (Nat.not_lt.2 hn)]
  rfl

/-- With no record, or under route SPILL, nothing is sent. -/
theorem State.recordStream_none (h : s.store.directory = [] ∨ s.config.active.drainRoute? = some .spill)
    (offset : Nat) (left : Option Nat) : s.recordStream offset left = ([], .refused) := by
  unfold State.recordStream
  rcases h with h | h
  · rw [h]
  · rw [State.routeIsPort_spill h]
    cases s.store.directory <;> rfl

variable {h : DirectoryEntry} {rest : List DirectoryEntry} (hd : s.store.directory = h :: rest)
  (hp : s.config.active.drainRoute? = some .port)

include hd hp

/-- While the head stays, its cells from the offset are sent; none where the offset is past the last. -/
theorem State.recordStream_stays (offset : Nat) : s.recordStream offset none =
    if offset < h.cells.length then ((h.cells.drop offset).flatMap cellBytes, .done) else ([], .badIndex) := by
  unfold State.recordStream
  rw [hd, State.routeIsPort_port hp]
  rfl

/-- A head that leaves after `k` cells were sent ends the stream there. -/
theorem State.recordStream_leaves (offset k : Nat) : s.recordStream offset (some k) =
    (((h.cells.drop offset).take k).flatMap cellBytes, .refused) := by
  unfold State.recordStream
  rw [hd, State.routeIsPort_port hp]
  simp [streamBytes, List.drop_take]

end route

/-- Settles O38: the stream, by whether the head stays and where the offset lies. -/
theorem readRecordStreamsHead : Obligations.ReadRecordStreamsHead := by
  intro s f offset ht
  simp only [exec_readRecord ht]
  refine ⟨fun h rest hd hp => ⟨fun hin => ?_, fun hout => ?_, fun k => ?_⟩, fun hn => ?_⟩
  · rw [State.recordStream_stays hd hp, if_pos hin]
  · rw [State.recordStream_stays hd hp, if_neg (Nat.not_lt.2 hout)]
  · rw [State.recordStream_leaves hd hp]
  · rw [State.recordStream_none hn]

/-! ## DISCARD_HEAD (R106) -/

theorem exec_discardHead {s : State} {f : Frame} (h : s.takesFrame f 1) : exec (.discardHead f) s =
    .next (s.beginEvent.discardHead.1.answer f [] s.beginEvent.discardHead.2) :=
  (exec_running h.1 (by simp) (by simp)).trans (congrArg _ (State.frame_taken h _))

theorem State.discardHead_removes {s : State} (hd : s.store.directory ≠ [])
    (hp : s.config.active.drainRoute? = some .port) : s.discardHead = (s.removeHead.count .discarded, .done) := by
  simp [State.discardHead, State.routeIsPort_port hp, hd]

theorem State.discardHead_refused {s : State}
    (h : s.store.directory = [] ∨ s.config.active.drainRoute? = some .spill) : s.discardHead = (s, .refused) := by
  rcases h with h | h
  · simp [State.discardHead, h]
  · simp [State.discardHead, State.routeIsPort_spill h]

/-- A frame's answer may come before or after the head leaves. -/
theorem State.answer_removeHead (s : State) (f : Frame) (data : List Byte) (r : Result) :
    s.removeHead.answer f data r = (s.answer f data r).removeHead :=
  State.answer_followHold _ _ _ _

theorem State.answer_count (s : State) (c : Counter) (f : Frame) (data : List Byte) (r : Result) :
    (s.count c).answer f data r = (s.answer f data r).count c := rfl

/-- Settles O39: the head leaves and hold follows before or after the frame's answer alike. -/
theorem discardHeadRemovesHead : Obligations.DiscardHeadRemovesHead := by
  intro s f ht
  rw [exec_discardHead ht]
  refine ⟨fun h rest hd hp => ?_, fun hn => ?_⟩
  · have store : (s.replied f [] .done).removeHead =
        ({ s.replied f [] .done with store := { s.store with directory := rest } } : State).followHold := by
      rw [State.removeHead, State.replied_store, hd]
      rfl
    rw [State.discardHead_removes (s := s.beginEvent) (by simp [hd]) hp, State.answer_count, State.answer_removeHead,
      State.answer_beginEvent, store]
  · rw [State.discardHead_refused (s := s.beginEvent) hn]
    rfl

end Sys2Proof.Machine
end

section
/-! SUPPORT. A property that every event, a due apply and a tick keep is kept by every step; unlike KeptByEvents, it need not
be kept by an apply that is not due. -/

namespace Sys2Proof.Machine

-- One theorem at a time: each would otherwise hold a thread of its own.
set_option Elab.async false

/-- A property that every part of a step keeps, an apply when it is due. -/
structure KeptByDueEvents (P : State → Prop) : Prop where
  bookkeeping : ∀ s pending freeIndex, P s → P { s with pending := pending, freeIndex := freeIndex }
  beginEvent : ∀ s : State, P s → P s.beginEvent
  takeDueApply : ∀ s : State, P s → P s.takeDueApply
  tick : ∀ s : State, P s → P s.tick
  powerOn : ∀ s : State, P s → P s.powerOn
  endReset : ∀ s : State, P s → P s.endReset
  effect : ∀ (c : Instr) (s : State), P s → P (Instr.effect c s)

namespace KeptByDueEvents

variable {P : State → Prop}

theorem exec (hP : KeptByDueEvents P) {c : Instr} {s t : State} (h : P s) (ht : exec c s = .next t) : P t := by
  by_cases hp : c = .porRstn
  · subst hp
    cases ht
    exact hP.powerOn s h
  by_cases hr : c = .resetEnd
  · subst hr
    cases ht
    exact State.whenDue_kept (fun _ => hP.endReset s h) h
  cases hh : s.held with
  | true =>
    rcases exec_held hh hp hr with hs | ⟨r, hs⟩ <;> obtain rfl := Host.Outcome.next.inj (hs.symm.trans ht)
    · exact h
    · exact hP.effect (.requestPresented r) s h
  | false =>
    obtain rfl := Host.Outcome.next.inj ((exec_eq_effect hh hp hr).symm.trans ht)
    exact hP.effect c _ (hP.takeDueApply _ (hP.beginEvent s h))

/-- Such a property is kept by a step. -/
theorem step (hP : KeptByDueEvents P) {s t : State} (h : P s) (ht : step s = .next t) : P t := by
  cases hp : s.pending with
  | cons c rest => exact hP.exec (hP.bookkeeping s rest s.freeIndex h) (by simpa [Machine.step, hp] using ht)
  | nil =>
    rw [step_of_empty hp] at ht
    unfold State.idleStep at ht
    split at ht
    · exact Host.Outcome.next.inj ht ▸ h
    · split at ht
      · exact hP.exec (hP.bookkeeping s s.pending _ h) ht
      · exact Host.Outcome.next.inj ht ▸ hP.tick s h

end KeptByDueEvents

end Sys2Proof.Machine
end

section
/-! SUPPORT. The record store's invariant: a change that stores no more than before keeps it, and hold and the spill engine make
only such changes. -/

namespace Sys2Proof.Machine

-- One theorem at a time: each would otherwise hold a thread of its own.
set_option Elab.async false

/-! ## Changes that store no more than before -/

/-- The same sets are in force, the same observations are in the open record under the same reservation, the directory
holds no more, and no entry of the ring is unclaimed that was not before. -/
structure State.StoresNoMore (s t : State) : Prop where
  active : t.config.active = s.config.active
  staged : t.config.staged = s.config.staged
  waits : t.config.applyPending = true → s.config.applyPending = true
  capturing : t.trigger.state = .capturing ↔ s.trigger.state = .capturing
  observations : t.store.openRecord.map OpenRecord.observations = s.store.openRecord.map OpenRecord.observations
  reservation : t.store.reservation = s.store.reservation
  cells : cellsOf t.store.directory ≤ cellsOf s.store.directory
  records : t.store.directory.length ≤ s.store.directory.length
  ring : ∀ e ∈ t.observer.ring, e.claimed = false → e ∈ s.observer.ring

theorem State.StoresNoMore.rfl' (s : State) : s.StoresNoMore s :=
  ⟨rfl, rfl, id, .rfl, rfl, rfl, le_rfl, le_rfl, fun _ he _ => he⟩

theorem State.StoresNoMore.trans {s t u : State} (h : s.StoresNoMore t) (k : t.StoresNoMore u) : s.StoresNoMore u where
  active := k.active.trans h.active
  staged := k.staged.trans h.staged
  waits := h.waits ∘ k.waits
  capturing := k.capturing.trans h.capturing
  observations := k.observations.trans h.observations
  reservation := k.reservation.trans h.reservation
  cells := k.cells.trans h.cells
  records := k.records.trans h.records
  ring := fun e he hc => h.ring e (k.ring e he hc) hc

/-- A change that the invariant does not read. -/
theorem State.StoresNoMore.of_eq {s t : State} (ha : t.config.active = s.config.active := by rfl)
    (hg : t.config.staged = s.config.staged := by rfl)
    (hp : t.config.applyPending = s.config.applyPending := by rfl)
    (ht : t.trigger.state = s.trigger.state := by rfl) (hs : t.store = s.store := by rfl)
    (ho : t.observer.ring = s.observer.ring := by rfl) : s.StoresNoMore t :=
  ⟨ha, hg, fun h => hp ▸ h, by rw [ht], by rw [hs], by rw [hs], by rw [hs], by rw [hs], fun e he _ => ho ▸ he⟩

theorem State.StoresNoMore.setsSound {s t : State} (h : s.StoresNoMore t) (hs : s.setsSound) : t.setsSound := by
  unfold State.setsSound
  rw [h.active, h.staged]
  exact ⟨hs.1, hs.2.1, hs.2.2.1, fun hp => hs.2.2.2 (h.waits hp)⟩

/-- The invariant of the open record, whatever record it is. -/
theorem State.openSound_iff (s : State) : s.openSound ↔
    (s.trigger.state = .capturing ↔ s.store.openRecord.isSome = true) ∧
      (s.store.openRecord = none → s.store.reservation = 0) ∧
      ∀ l, s.store.openRecord.map OpenRecord.observations = some l →
        s.store.reservation = s.config.active.reservation ∧ s.store.directory.length < 256 ∧
          s.config.active.postCount ≠ 0 ∧ l.length < s.config.active.maxObs.toNat ∧
          (s.config.active.dataCells = 0 → (l.countP fun o => o.dataBeat.isSome) = 0) := by
  unfold State.openSound
  cases s.store.openRecord <;> simp [OpenRecord.dataBeats]

theorem State.StoresNoMore.sound {s t : State} (h : s.StoresNoMore t) (hs : s.storeSound) : t.storeSound := by
  obtain ⟨hsets, hopen, hcells, hrecords, hring⟩ := hs
  obtain ⟨hcap, hnone, hsome⟩ := s.openSound_iff.1 hopen
  have isSome : t.store.openRecord.isSome = s.store.openRecord.isSome := by
    simpa using congrArg Option.isSome h.observations
  refine ⟨h.setsSound hsets, t.openSound_iff.2 ⟨?_, fun hn => ?_, fun l hl => ?_⟩, ?_, h.records.trans hrecords, ?_⟩
  · rw [h.capturing, isSome, hcap]
  · rw [h.reservation]
    exact hnone (by simpa [hn] using isSome.symm)
  · obtain ⟨hr, hd, hq⟩ := hsome l (h.observations ▸ hl)
    rw [h.reservation, h.active]
    exact ⟨hr, h.records.trans_lt hd, hq⟩
  · rw [h.reservation]
    exact (Nat.add_le_add_right h.cells _).trans hcells
  · rw [h.active]
    exact fun hd e he hc => hring hd e (h.ring e he hc) hc

/-- A change that the invariant does not read keeps it. -/
theorem State.storeSound.same {s t : State} (h : s.storeSound) (ha : t.config.active = s.config.active := by rfl)
    (hg : t.config.staged = s.config.staged := by rfl)
    (hp : t.config.applyPending = s.config.applyPending := by rfl)
    (ht : t.trigger.state = s.trigger.state := by rfl) (hs : t.store = s.store := by rfl)
    (ho : t.observer.ring = s.observer.ring := by rfl) : t.storeSound :=
  (State.StoresNoMore.of_eq ha hg hp ht hs ho).sound h

theorem State.count_storesNoMore (s : State) (c : Counter) : s.StoresNoMore (s.count c) := .of_eq
theorem State.raise_storesNoMore (s : State) (k : Sticky) : s.StoresNoMore (s.raise k) := .of_eq
theorem State.restEngine_storesNoMore (s : State) (e : EngineState) : s.StoresNoMore (s.restEngine e) := .of_eq

/-- The unit moves between states that are not CAPTURING. -/
theorem State.setTrigger_storesNoMore {s : State} (hs : s.trigger.state ≠ .capturing) {t : TriggerState}
    (ht : t ≠ .capturing) : s.StoresNoMore (s.setTrigger t) where
  __ := State.StoresNoMore.rfl' s
  capturing := iff_of_false ht hs

theorem State.enterStage_storesNoMore {s : State} (hs : s.trigger.state ≠ .capturing) (n : Nat) :
    s.StoresNoMore (s.enterStage n) :=
  State.setTrigger_storesNoMore hs (by simp)

/-! ## Hold, and the spill engine -/

@[simp] theorem State.followHold_trigger (s : State) : s.followHold.trigger = s.trigger := by
  have h : s.clearExpired.trigger = s.trigger := by rw [s.clearExpired_eq]
  unfold State.followHold
  dsimp only
  split
  · split <;> exact h
  · exact h

theorem State.followHold_storesNoMore (s : State) : s.StoresNoMore s.followHold := by
  have hc := s.followHold_keeps.config
  exact .of_eq (congrArg ConfigBlock.active hc) (congrArg ConfigBlock.staged hc) (congrArg ConfigBlock.applyPending hc)
    (congrArg TriggerUnit.state s.followHold_trigger) s.followHold_store
    (congrArg ObservationUnit.ring s.followHold_observer)

theorem State.expireHold_storesNoMore (s : State) : s.StoresNoMore s.expireHold := .of_eq

theorem State.applyHold_storesNoMore (s : State) : s.StoresNoMore s.applyHold := by
  refine s.followHold_storesNoMore.trans ?_
  unfold State.applyHold
  dsimp only
  split
  · exact State.expireHold_storesNoMore _
  · exact .rfl' _

/-- The state of the head is none of the store's sizes. -/
theorem State.setHead_storesNoMore (s : State) (h : HeadState) : s.StoresNoMore (s.setHead h) where
  __ := State.StoresNoMore.rfl' s
  cells := (cellsOf_modify_head _ h).le
  records := (List.length_modify _ _ _).le

theorem State.placeHead_storesNoMore (s : State) : s.StoresNoMore s.placeHead := by
  unfold State.placeHead
  split
  · exact .of_eq
  · split
    · exact .of_eq
    · exact .trans (.of_eq (t := s.beginAttempt _ _)) (State.setHead_storesNoMore _ _)
    · exact .of_eq
    · exact .of_eq

theorem State.takeHead_storesNoMore (s : State) : s.StoresNoMore s.takeHead := by
  unfold State.takeHead
  split
  · exact s.placeHead_storesNoMore
  · exact .rfl' _

theorem State.removeHead_storesNoMore (s : State) : s.StoresNoMore s.removeHead := by
  refine .trans (t := { s with store := { s.store with directory := s.store.directory.tail } }) ?_
    (State.followHold_storesNoMore _)
  exact { State.StoresNoMore.rfl' s with
    cells := by cases s.store.directory <;> simp [cellsOf]
    records := by simp }

theorem State.headSkipped_storesNoMore (s : State) : s.StoresNoMore s.headSkipped :=
  s.removeHead_storesNoMore.trans <| (State.count_storesNoMore _ _).trans <|
    (State.restEngine_storesNoMore _ _).trans (State.takeHead_storesNoMore _)

theorem State.bodyAcknowledged_storesNoMore (s : State) (a : Attempt) : s.StoresNoMore (s.bodyAcknowledged a) := by
  unfold State.bodyAcknowledged
  dsimp only
  split
  · split
    · exact .trans (.of_eq (t := s.restEngine .idle)) (State.takeHead_storesNoMore _)
    · exact .of_eq
    · exact .of_eq
  · exact .of_eq

theorem State.recordPublished_storesNoMore (s : State) (p : Nat) (w : Word) : s.StoresNoMore (s.recordPublished p w) :=
  .trans (.of_eq (t := s.setProducer p w)) <| (State.removeHead_storesNoMore _).trans <|
    (State.count_storesNoMore _ _).trans <| (State.restEngine_storesNoMore _ _).trans (State.takeHead_storesNoMore _)

theorem State.currentAnswered_storesNoMore (s : State) (a : Attempt) (role : WriteRole) (status : Status) :
    s.StoresNoMore (s.currentAnswered a role status) := by
  unfold State.currentAnswered
  split
  · exact .trans (.of_eq (t := s.endAttempt _)) ((State.setHead_storesNoMore _ _).trans (State.raise_storesNoMore _ _))
  · exact s.bodyAcknowledged_storesNoMore a
  · split
    · exact .trans (.of_eq (t := (s.setProducer _ _).restEngine .idle)) (State.placeHead_storesNoMore _)
    · exact s.recordPublished_storesNoMore _ _
    · exact s.recordPublished_storesNoMore _ _

theorem State.staleAnswered_storesNoMore (s : State) (role : WriteRole) (status : Status) :
    s.StoresNoMore (s.staleAnswered role status) := by
  unfold State.staleAnswered
  split
  · exact .rfl' _
  · split
    · exact .trans (.of_eq (t := s.setProducer _ _)) (State.takeHead_storesNoMore _)
    · exact s.takeHead_storesNoMore

theorem State.spillResponse_storesNoMore (s : State) (tag : Tag) (status : Status) :
    s.StoresNoMore (s.spillResponse tag status).1 := by
  have freed : s.StoresNoMore (s.freeTag tag.toNat) := .of_eq
  unfold State.spillResponse
  split
  · split
    · dsimp only
      split
      · exact freed.trans (State.staleAnswered_storesNoMore _ _ _)
      · split
        · exact freed.trans (State.currentAnswered_storesNoMore _ _ _ _)
        · exact freed
    · exact .rfl' _
  · exact freed
  · exact .rfl' _
  · exact .rfl' _

theorem State.consumerOffer_storesNoMore (s : State) (sn : Snoop) : s.StoresNoMore (s.consumerOffer sn) := by
  unfold State.consumerOffer State.judgeConsumer
  repeat' split
  · exact .rfl' _
  · dsimp only
    split
    · exact .trans (by exact .of_eq) (State.placeHead_storesNoMore _)
    · exact .of_eq
  · exact .of_eq
  · exact .of_eq

theorem State.spillResume_storesNoMore (s : State) : s.StoresNoMore s.spillResume.1 := by
  rcases s.spillResume_cases with h | h | h <;> rw [h]
  · exact .of_eq
  · exact s.placeHead_storesNoMore
  · exact .rfl' _

theorem State.spillSkip_storesNoMore (s : State) : s.StoresNoMore s.spillSkip.1 := by
  rcases s.spillSkip_cases with h | h <;> rw [h]
  · exact s.headSkipped_storesNoMore
  · exact .rfl' _

theorem State.discardHead_storesNoMore (s : State) : s.StoresNoMore s.discardHead.1 := by
  unfold State.discardHead
  split
  · exact s.removeHead_storesNoMore.trans (State.count_storesNoMore _ _)
  · exact .rfl' _

end Sys2Proof.Machine
end

section
/-! SUPPORT. The record store's invariant where more is stored: a close, a fire, an offer, and an observation that enters the
ring. -/

namespace Sys2Proof.Machine

-- One theorem at a time: each would otherwise hold a thread of its own.
set_option Elab.async false

/-! ## The sets (R152) -/

theorem ParamSet.countsFit_of_passed {p : ParamSet} (h : p.firstFailed = none) : p.countsFit = true := by
  have passed : ∀ c ∈ p.checks, c.2 = true := by simpa [ParamSet.firstFailed] using h
  exact passed (1, p.countsFit) (by simp [ParamSet.checks])

/-- The pre part, the trigger observation and the post part fit in MAX_OBS. -/
theorem ParamSet.counts_le_maxObs {p : ParamSet} (h : p.firstFailed = none) :
    p.preCount.toNat + p.postCount.toNat + 1 ≤ p.maxObs.toNat := by
  have := ParamSet.countsFit_of_passed h
  simp only [ParamSet.countsFit, Bool.and_eq_true, decide_eq_true_eq] at this
  exact this.2

theorem shaped_of_ite {c : Prop} [Decidable c] {a b : Option ParamSet} (ha : ∀ q, a = some q → q.shaped)
    (hb : ∀ q, b = some q → q.shaped) : ∀ q, (if c then a else b) = some q → q.shaped := by
  split
  · exact ha
  · exact hb

/-- A word written changes no set's shape: it changes a field, or one watch entry or stage in its place (R151). -/
theorem ParamSet.shaped.writeWord {p : ParamSet} (h : p.shaped) (i : Nat) (w : Word) :
    ∀ q, p.writeWord i w = some q → q.shaped := by
  unfold ParamSet.writeWord
  have field : ∀ {p' : ParamSet}, p'.watch = p.watch → p'.stages = p.stages → ∀ q, some p' = some q → q.shaped :=
    fun hw hs q hq => by
      obtain rfl := Option.some.inj hq
      exact ⟨hw ▸ h.1, hs ▸ h.2⟩
  iterate 16 refine shaped_of_ite (field rfl rfl) ?_
  refine shaped_of_ite (fun q hq => ?_) (shaped_of_ite (fun q hq => ?_) fun q hq => by cases hq)
  · obtain ⟨e, -, hq⟩ := Option.bind_eq_some_iff.1 hq
    obtain ⟨e', -, rfl⟩ := Option.map_eq_some_iff.1 hq
    exact ⟨(List.length_set ..).trans h.1, h.2⟩
  · obtain ⟨d, -, hq⟩ := Option.bind_eq_some_iff.1 hq
    obtain ⟨d', -, rfl⟩ := Option.map_eq_some_iff.1 hq
    exact ⟨h.1, (List.length_set ..).trans h.2⟩

/-! ## Data beats (R45, R48, R56) -/

/-- While d is 0 no observation carries a data beat: an entry that hits is enabled, and no enabled one captures. -/
theorem State.makeObservation_bare {s : State} (hd : s.config.active.dataCells = 0) (b : ObsBody) (beat : Option Beat) :
    (s.makeObservation b beat).dataBeat = none := by
  refine if_neg fun hc => ?_
  obtain ⟨⟨e, n⟩, hmem, hhit⟩ := List.any_eq_true.1 hc
  obtain ⟨hbit, hcapture⟩ := Bool.and_eq_true_iff.1 hhit
  obtain ⟨e', he', hhits⟩ := (getLsbD_hitSet _ _ _ (BitVec.lt_of_getLsbD hbit)).1 hbit
  have same : e' = e := Option.some.inj (he'.symm.trans (List.mem_zipIdx_iff_getElem?.1 hmem))
  have captures : s.config.active.watch.any (fun e => e.enabled && e.capture) = true :=
    List.any_eq_true.2 ⟨e, List.mem_of_getElem? (same ▸ he'), by
      rw [Bool.and_eq_true_iff]
      exact ⟨same ▸ ((e'.isHit_iff _ _).1 hhits).1, hcapture⟩⟩
  rw [ParamSet.dataCells, if_pos captures] at hd
  cases hd

/-- While d is 0 no unclaimed entry of the ring carries a data beat. -/
def State.unclaimedBare (s : State) : Prop :=
  s.config.active.dataCells = 0 → ∀ e ∈ s.observer.ring, e.claimed = false → e.obs.dataBeat = none

/-- An entry still unclaimed after a walk was in the ring before it. -/
theorem mem_ring_of_mem_preWalk {p : ParamSet} {limit : Nat} {ring : List RingEntry} {e : RingEntry}
    (he : e ∈ (preWalk p limit ring []).1) (hc : e.claimed = false) : e ∈ ring := by
  obtain ⟨m, hw⟩ := preWalk_claims p limit ring []
  rw [hw.ring_eq, List.mem_append, List.mem_map] at he
  rcases he with ⟨x, -, rfl⟩ | he
  · cases hc
  · exact List.mem_of_mem_drop he

/-- A walk keeps observations of unclaimed entries. -/
theorem exists_unclaimed_of_mem_preWalk {p : ParamSet} {limit : Nat} {ring : List RingEntry} {o : Observation}
    (ho : o ∈ (preWalk p limit ring []).2.1) : ∃ e ∈ ring, e.claimed = false ∧ e.obs = o := by
  obtain ⟨m, hw⟩ := preWalk_claims p limit ring []
  rw [hw.kept_eq, List.append_nil, List.mem_reverse, List.mem_filter, List.mem_map] at ho
  obtain ⟨⟨e, he, rfl⟩, -⟩ := ho
  exact ⟨e, List.mem_of_mem_take he, hw.unclaimed e he, rfl⟩

/-! ## A close (R100) -/

theorem cellsOf_append (d : List DirectoryEntry) (e : DirectoryEntry) :
    cellsOf (d ++ [e]) = cellsOf d + e.cells.length := by
  simp [cellsOf]

theorem State.fileRecord_store (s : State) (r : OpenRecord) : (s.fileRecord r).store = { s.store with
    directory := s.store.directory ++ [DirectoryEntry.mk r.number r.cells .ready], openRecord := none,
    reservation := 0 } := by
  unfold State.fileRecord
  dsimp only
  split <;> split <;> rfl

@[simp] theorem State.leaveCapture_store (s : State) : s.leaveCapture.store = s.store := by
  unfold State.leaveCapture
  split <;> rfl

theorem State.leaveCapture_state (s : State) : s.leaveCapture.trigger.state ≠ .capturing := by
  unfold State.leaveCapture
  split <;> simp [State.enterStage]

/-- With no record open and no reservation, the store is sound where the directory fits. -/
theorem State.storeSound_of_closed {s : State} (hsets : s.setsSound) (hring : s.unclaimedBare)
    (ht : s.trigger.state ≠ .capturing) (hr : s.store.openRecord = none) (h0 : s.store.reservation = 0)
    (hcells : cellsOf s.store.directory ≤ 16384) (hrecords : s.store.directory.length ≤ 256) : s.storeSound := by
  refine ⟨hsets, ?_, by rw [h0]; exact hcells, hrecords, hring⟩
  unfold State.openSound
  rw [hr]
  exact ⟨ht, h0⟩

/-- A record that fits, filed where the directory has a place, leaves the store sound. -/
theorem State.closeRecord_storeSound {s : State} (hsets : s.setsSound) (hring : s.unclaimedBare) {r : OpenRecord}
    (hcells : cellsOf s.store.directory + r.length ≤ 16384) (hrecords : s.store.directory.length < 256) :
    (s.closeRecord r).storeSound := by
  have filed : ∀ t : State, t.config = s.config → t.observer = s.observer → t.store = (s.fileRecord r).store →
      t.trigger.state ≠ .capturing → t.storeSound := fun t hc ho hs ht => by
    rw [State.fileRecord_store] at hs
    refine State.storeSound_of_closed ?_ ?_ ht (by rw [hs]) (by rw [hs]) ?_ ?_
    · unfold State.setsSound
      rw [hc]
      exact hsets
    · unfold State.unclaimedBare
      rw [hc, ho]
      exact hring
    · rw [hs, cellsOf_append, r.cells_length]
      exact hcells
    · rw [hs, List.length_append]
      exact hrecords
  refine ((State.takeHead_storesNoMore _).trans (State.followHold_storesNoMore _)).sound ?_
  split
  · exact filed _ (s.fileRecord_keeps r).config (s.fileRecord_observer r) rfl (by simp)
  · exact filed _ ((State.leaveCapture_keeps _).config.trans (s.fileRecord_keeps r).config)
      ((State.leaveCapture_observer _).trans (s.fileRecord_observer r)) (State.leaveCapture_store _)
      (State.leaveCapture_state _)

/-- A close of what the open record may become: at most MAX_OBS observations, and no data beat while d is 0. -/
theorem State.storeSound.closes {s : State} (h : s.storeSound) {r r' : OpenRecord} (hr : s.store.openRecord = some r)
    (hn : r'.observations.length ≤ s.config.active.maxObs.toNat)
    (hd : s.config.active.dataCells = 0 → r'.dataBeats = 0) : (s.closeRecord r').storeSound := by
  obtain ⟨hsets, hopen, hcells, -, hring⟩ := h
  unfold State.openSound at hopen
  rw [hr] at hopen
  obtain ⟨-, hres, hplace, -⟩ := hopen
  rw [hres] at hcells
  exact State.closeRecord_storeSound hsets hring
    ((Nat.add_le_add_left (OpenRecord.length_le_reservation hn hd) _).trans hcells) hplace

/-! ## A fire (R70, R89–R91, R97) -/

/-- A record opened by a fire has no more than P + 1 observations. -/
theorem State.newRecord_observations_le (s : State) (c : TriggerCause) (b : Bool) :
    (s.newRecord c b).observations.length ≤ s.config.active.preCount.toNat + 1 := by
  refine (preWalk_kept_le _ _ _ (Nat.zero_le _)).trans ?_
  unfold walkLimit
  split <;> omega

/-- And no data beat while d is 0: its observations stood unclaimed in the ring. -/
theorem State.newRecord_dataBeats {s : State} (hring : s.unclaimedBare) (hd : s.config.active.dataCells = 0)
    (c : TriggerCause) (b : Bool) : (s.newRecord c b).dataBeats = 0 := by
  refine List.countP_eq_zero.2 fun o ho => ?_
  obtain ⟨e, he, hc, rfl⟩ := exists_unclaimed_of_mem_preWalk ho
  simp [hring hd e he hc]

theorem State.fireFits_iff (s : State) : s.fireFits = true ↔
    s.config.active.reservation ≤ s.freeCells ∧ s.store.directory.length < 256 := by
  unfold State.fireFits
  rw [Bool.and_eq_true_iff, decide_eq_true_iff, decide_eq_true_iff]
  rfl

/-- The free cells of an accepted fire hold the reservation beside the directory. -/
theorem State.cells_add_reservation_le {s : State} (h : s.config.active.reservation ≤ s.freeCells) :
    cellsOf s.store.directory + s.config.active.reservation ≤ 16384 := by
  simp only [State.freeCells, Config.storeCells, ParamSet.reservation] at h ⊢
  omega

theorem State.refuseFire_storesNoMore {s : State} (h : s.trigger.state ≠ .capturing) : s.StoresNoMore s.refuseFire where
  __ := State.StoresNoMore.rfl' s
  capturing := iff_of_false (by simp [State.refuseFire]) h

/-- A fire is refused, or opens a record that fits in what it reserves; with Q of 0 that record closes at once. -/
theorem State.fire_storeSound {s : State} (h : s.storeSound) (ht : s.trigger.state ≠ .capturing) (c : TriggerCause)
    (b : Bool) : (s.fire c b).storeSound := by
  obtain ⟨hsets, -, -, -, hring⟩ := id h
  have counts := ParamSet.counts_le_maxObs hsets.2.2.1
  have few := s.newRecord_observations_le c b
  have bare := fun hd => State.newRecord_dataBeats hring hd c b
  have claimed : (s.openFor c b).unclaimedBare := fun hd e he hc => hring hd e (mem_ring_of_mem_preWalk he hc) hc
  unfold State.fire
  split
  · rename_i hf
    obtain ⟨hfree, hplace⟩ := s.fireFits_iff.1 hf
    have fits := State.cells_add_reservation_le hfree
    dsimp only
    split
    · have short := OpenRecord.length_le_reservation (p := s.config.active) (few.trans (by omega)) bare
      exact State.closeRecord_storeSound (s := s.openFor c b) hsets claimed
        ((Nat.add_le_add_left short _).trans fits) hplace
    · rename_i hq
      have due : s.config.active.postCount.toNat ≠ 0 := fun h0 => hq (BitVec.eq_of_toNat_eq h0)
      have room : (s.newRecord c b).observations.length < s.config.active.maxObs.toNat := by omega
      exact (State.followHold_storesNoMore _).sound
        ⟨hsets, ⟨rfl, rfl, hplace, hq, room, bare⟩, fits, hplace.le, claimed⟩
  · exact (State.refuseFire_storesNoMore ht).sound h

/-! ## An offer and an entry into the ring (R43, R93) -/

theorem OpenRecord.keep_dataBeats (r : OpenRecord) {o : Observation} (ho : o.dataBeat = none) :
    (r.keep o).dataBeats = r.dataBeats := by
  simp [OpenRecord.dataBeats, OpenRecord.keep, ho]

theorem State.offer_storeSound {s : State} (h : s.storeSound) {o : Observation}
    (ho : s.config.active.dataCells = 0 → o.dataBeat = none) : (s.offer o).state.storeSound := by
  cases hr : s.store.openRecord with
  | none =>
    unfold State.offer
    rw [hr]
    exact h
  | some r =>
    obtain ⟨hsets, hopen, hcells, hrecords, hring⟩ := id h
    unfold State.openSound at hopen
    rw [hr] at hopen
    obtain ⟨ht, hres, hplace, hq, hn, hd⟩ := hopen
    have few : (r.keep o).observations.length ≤ s.config.active.maxObs.toNat := by
      rw [OpenRecord.keep, List.length_append]
      exact hn
    have bare : s.config.active.dataCells = 0 → (r.keep o).dataBeats = 0 := fun h0 =>
      (r.keep_dataBeats (ho h0)).trans (hd h0)
    by_cases hs : suppresses s.config.active o = true
    · rw [State.offer_suppressed hr hs]
      have counted := State.StoresNoMore.sound (s := s)
        (t := { s with store := { s.store with openRecord := some { r with suppressed := satSucc r.suppressed } } })
        { State.StoresNoMore.rfl' s with observations := by rw [hr]; rfl } h
      exact (State.count_storesNoMore _ _).sound counted
    by_cases hlast : r.postRemaining ≤ 1
    · rw [State.offer_last hr hs hlast]
      dsimp only
      exact h.closes hr few bare
    by_cases hfull : r.observations.length + 1 = s.config.active.maxObs.toNat
    · rw [State.offer_truncates hr hs (Nat.not_le.1 hlast) hfull]
      dsimp only
      exact h.closes hr few bare
    · rw [State.offer_kept hr hs (Nat.not_le.1 hlast) hfull]
      refine ⟨hsets, ⟨ht, hres, hplace, hq, few.lt_of_ne ?_, bare⟩, hcells, hrecords, hring⟩
      simpa [OpenRecord.keep] using hfull

theorem State.enterRing_storeSound {s : State} (h : s.storeSound) {o : Observation}
    (ho : s.config.active.dataCells = 0 → o.dataBeat = none) (claimed : Bool) : (s.enterRing o claimed).storeSound := by
  obtain ⟨hsets, hopen, hcells, hrecords, hring⟩ := h
  refine ⟨hsets, hopen, hcells, hrecords, fun hd e he hc => ?_⟩
  rcases List.mem_cons.1 (List.mem_of_mem_take he) with rfl | he
  · exact ho hd
  · exact hring hd e he hc

end Sys2Proof.Machine
end

section
/-! SUPPORT. The record store's invariant, event by event. -/

namespace Sys2Proof.Machine

-- One theorem at a time: each would otherwise hold a thread of its own.
set_option Elab.async false

/-! ## The trigger unit -/

theorem State.retrigger_storesNoMore (s : State) : s.StoresNoMore s.retrigger where
  __ := State.StoresNoMore.rfl' s
  observations := by
    have same : ∀ r : OpenRecord, (r.retriggered s.config.active).observations = r.observations := fun r => by
      unfold OpenRecord.retriggered
      dsimp only
      split <;> rfl
    simp [State.retrigger, Function.comp_def, same]

theorem State.satisfyStage_storeSound {s : State} (h : s.storeSound) (ht : s.trigger.state ≠ .capturing) (n : Nat)
    (b : Bool) : (s.satisfyStage n b).storeSound := by
  unfold State.satisfyStage
  split
  · exact (State.enterStage_storesNoMore ht _).sound h
  · exact State.fire_storeSound h ht _ _
  · exact h

theorem State.evaluateTrigger_storeSound {s : State} (h : s.storeSound) (o : Observation) :
    (s.evaluateTrigger o).storeSound := by
  unfold State.evaluateTrigger State.evaluateHits
  split
  · exact h
  · rename_i a ha
    have armed : s.trigger.state ≠ .capturing := by simp [ha]
    dsimp only
    split
    · split
      · exact State.satisfyStage_storeSound h armed _ _
      · exact (State.setTrigger_storesNoMore armed (by simp)).sound h
    · split
      · exact State.satisfyStage_storeSound h armed _ _
      · exact h
    · exact h
    · exact h
  · split
    · exact s.retrigger_storesNoMore.sound h
    · exact h

theorem State.triginEdgeSeen_storeSound {s : State} (h : s.storeSound) : s.triginEdgeSeen.storeSound := by
  unfold State.triginEdgeSeen
  split
  · rename_i ha
    split
    · exact State.satisfyStage_storeSound h (by simp [ha]) _ _
    · exact h
  · rename_i ha
    exact State.fire_storeSound h (by simp [ha]) _ _
  · exact s.retrigger_storesNoMore.sound h
  · exact s.retrigger_storesNoMore.sound h
  · exact h

theorem State.armUnit_storeSound {s : State} (h : s.storeSound) : s.armUnit.1.storeSound := by
  unfold State.armUnit
  split
  · rename_i hd
    split
    · exact (State.enterStage_storesNoMore (by simp [hd]) 0).sound h
    · exact h
  · exact h
  · exact h

theorem State.abortRecord_storeSound {s : State} (h : s.storeSound) (ht : s.trigger.state = .capturing) :
    s.abortRecord.storeSound := by
  obtain ⟨r, hr⟩ := Option.isSome_iff_exists.1 ((s.openSound_iff.1 h.2.1).1.1 ht)
  obtain ⟨-, -, -, hn, hd⟩ := (s.openSound_iff.1 h.2.1).2.2 r.observations (by rw [hr]; rfl)
  unfold State.abortRecord
  rw [hr]
  exact h.closes hr hn.le hd

theorem State.disarmUnit_storeSound {s : State} (h : s.storeSound) : s.disarmUnit.storeSound := by
  unfold State.disarmUnit
  split
  · exact h
  · rename_i ha
    exact (State.setTrigger_storesNoMore (by simp [ha]) (by simp)).sound h
  · exact State.abortRecord_storeSound h ‹_›

theorem State.forceUnit_storeSound {s : State} (h : s.storeSound) (c : TriggerCause) :
    (s.forceUnit c).1.storeSound := by
  unfold State.forceUnit
  split
  · exact h
  · rename_i ha
    exact State.fire_storeSound h (by simp [ha]) _ _
  · exact s.retrigger_storesNoMore.sound h

theorem State.timeOutStage_storeSound {s : State} (h : s.storeSound) (hd : s.stageTimedOut = true) :
    s.timeOutStage.storeSound := by
  have armed : s.trigger.state ≠ .capturing := fun hc => by simp [State.stageTimedOut, hc] at hd
  exact ((State.enterStage_storesNoMore armed 0).trans (State.count_storesNoMore _ _)).sound h

/-! ## Observations and offers -/

theorem State.observe_storeSound {s : State} (h : s.storeSound) (b : ObsBody) (d : Option Beat) :
    (s.observe b d).storeSound := by
  have bare := fun hd => State.makeObservation_bare (s := s) hd b d
  have numbered : (s.numbered (s.makeObservation b d)).storeSound := h.same
  have offered := State.offer_storeSound numbered bare
  have entered : ∀ c, (((s.numbered (s.makeObservation b d)).offer (s.makeObservation b d)).state.enterRing
      (s.makeObservation b d) c).storeSound := fun c => by
    refine State.enterRing_storeSound offered (fun hd => bare ?_) c
    rwa [(State.offer_keeps _ _).config] at hd
  unfold State.observe State.observationPath
  split
  · dsimp only
    split
    · exact entered _
    · exact State.evaluateTrigger_storeSound (entered _) _
  · exact h

theorem State.snoopOffer_storeSound {s : State} (h : s.storeSound) (sn : Snoop) (i : Initiator) :
    (s.snoopOffer sn i).storeSound := by
  have counted : ∀ {t : State}, t.storeSound → ∀ c, (t.count c).storeSound := fun ht c =>
    (State.count_storesNoMore _ c).sound ht
  unfold State.snoopOffer State.commandOffer State.decodeCommand
  split
  · split
    · exact h
    · split
      · exact counted h _
      · split
        · exact counted h _
        · dsimp only
          repeat' split
          · exact counted (State.armUnit_storeSound h) _
          · exact counted (State.disarmUnit_storeSound h) _
          · exact counted (State.forceUnit_storeSound h _) _
          · exact counted (State.observe_storeSound h _ _) _
          · exact counted (t := s.clearCounters) h.same _
          · exact (s.raise_storesNoMore _).sound h
  · exact (s.consumerOffer_storesNoMore sn).sound h

/-! ## An apply (R83, R154, R155) -/

theorem State.applyTrigger_storesNoMore (s : State) : s.StoresNoMore s.applyTrigger := by
  unfold State.applyTrigger
  split
  · rename_i ha
    split
    · exact State.enterStage_storesNoMore (by simp [ha]) 0
    · exact State.setTrigger_storesNoMore (by simp [ha]) (by simp)
  · exact .rfl' _
  · exact .rfl' _

theorem State.spillGeometryChanged_storesNoMore (s : State) : s.StoresNoMore s.spillGeometryChanged := by
  unfold State.spillGeometryChanged
  split <;> exact .of_eq

theorem State.applyLossWatch_storesNoMore (s : State) : s.StoresNoMore s.applyLossWatch := by
  unfold State.applyLossWatch
  split <;> exact .of_eq

/-- An apply waits for no record to be open, and its set has passed the checks (R152, R154). -/
theorem State.installStaged_storeSound {s : State} (h : s.storeSound) (hd : s.applyDue = true) :
    s.installStaged.storeSound := by
  obtain ⟨⟨-, hshape, -, hpassed⟩, hopen, hcells, hrecords, -⟩ := h
  simp only [State.applyDue, Bool.and_eq_true, Bool.not_eq_true', State.capturing, beq_eq_false_iff_ne] at hd
  obtain ⟨⟨hpending, hidle⟩, -⟩ := hd
  obtain ⟨hcap, hres, -⟩ := s.openSound_iff.1 hopen
  have closed : s.store.openRecord = none := by simpa [hidle] using hcap
  refine State.storeSound_of_closed ⟨hshape, hshape, hpassed hpending, fun hp => by cases hp⟩ (fun _ e he hc => ?_)
    hidle closed (hres closed) (le_of_add_le_left hcells) hrecords
  obtain ⟨x, -, rfl⟩ := List.mem_map.1 he
  cases hc

theorem State.takeEffect_storeSound {s : State} (h : s.storeSound) (hd : s.applyDue = true) :
    s.takeEffect.storeSound := by
  have geometry : ∀ (t : State) (c : Bool), t.StoresNoMore (if c then t.spillGeometryChanged else t) := fun t c => by
    split
    · exact t.spillGeometryChanged_storesNoMore
    · exact .rfl' _
  refine State.StoresNoMore.sound ?_ (State.installStaged_storeSound h hd)
  exact (State.applyTrigger_storesNoMore _).trans <| (geometry _ _).trans <|
    (State.applyLossWatch_storesNoMore _).trans <| (State.applyHold_storesNoMore _).trans (State.raise_storesNoMore _ _)

theorem State.takeDueApply_storeSound {s : State} (h : s.storeSound) : s.takeDueApply.storeSound := by
  unfold State.takeDueApply
  split
  · exact State.takeEffect_storeSound h ‹_›
  · exact h

/-- APPLY checks the set before it waits to take effect. -/
theorem State.applyCommand_storeSound {s : State} (h : s.storeSound) : s.applyCommand.1.storeSound := by
  unfold State.applyCommand State.requestApply
  split
  · exact h
  · split
    · exact h.same
    · rename_i hpassed
      obtain ⟨⟨hactive, hstaged, hchecked, -⟩, hrest⟩ := h
      have waiting : ({ s with config := { s.config with refusalCause := none, applyPending := true } } :
          State).storeSound := ⟨⟨hactive, hstaged, hchecked, fun _ => hpassed⟩, hrest⟩
      exact State.takeDueApply_storeSound waiting

theorem State.writeStagedWord_storeSound {s : State} (h : s.storeSound) (i : BitVec 16) (w : Word) :
    (s.writeStagedWord i w).1.storeSound := by
  unfold State.writeStagedWord
  split
  · exact h
  · rename_i p hw
    split
    · exact h
    · rename_i hp
      obtain ⟨⟨hactive, hstaged, hchecked, -⟩, hrest⟩ := h
      exact ⟨⟨hactive, hstaged.writeWord _ _ p hw, hchecked, fun hpending => absurd hpending hp⟩, hrest⟩

theorem State.observeAndOffer_storeSound {s : State} (h : s.storeSound) (b : ObsBody) (d : Option Beat)
    (o : Option Snoop) (i : Initiator) : (s.observeAndOffer b d o i).storeSound := by
  have spent : (s.spendChoices 1).storeSound := h.same
  unfold State.observeAndOffer
  split
  · exact State.observe_storeSound h b d
  · dsimp only
    split
    · exact State.snoopOffer_storeSound (State.takeDueApply_storeSound (State.observe_storeSound spent b d)) _ i
    · exact State.observe_storeSound (State.takeDueApply_storeSound (State.snoopOffer_storeSound spent _ i)) b d

/-! ## The transit unit's events -/

theorem State.release_storeSound {s : State} (h : s.storeSound) (k : Key) : (s.release k).storeSound := h.same

theorem State.presentRequest_storeSound {s : State} (h : s.storeSound) (r : Request) :
    (s.presentRequest r).storeSound := by
  have presented : ({ s with transit := { s.transit with upstream := some r } } : State).storeSound := h.same
  unfold State.presentRequest
  split
  · exact h
  · refine (State.followHold_storesNoMore _).sound ?_
    dsimp only
    split
    · exact (State.raise_storesNoMore _ _).sound presented
    · exact presented

theorem State.takePresented_storeSound {s : State} (h : s.storeSound) : s.takePresented.storeSound := by
  unfold State.takePresented State.takeRequest
  split
  · refine State.whenDue_kept (fun _ => ?_) h
    split
    · exact State.release_storeSound (State.observe_storeSound h.same _ _) _
    · exact h.same
  · exact h

theorem State.arbitrate_storesNoMore (s : State) : s.StoresNoMore s.arbitrate := by
  unfold State.arbitrate
  repeat' split
  all_goals exact .of_eq

theorem State.takeDownstream_storesNoMore (s : State) : s.StoresNoMore s.takeDownstream := by
  unfold State.takeDownstream
  split
  · exact .rfl' _
  · dsimp only
    split <;> exact .of_eq

theorem State.orphanResponse_storeSound {s : State} (h : s.storeSound) (r : Response) :
    (s.orphanResponse r).storeSound :=
  State.observe_storeSound h.same _ _

theorem State.memoryResponse_storeSound {s : State} (h : s.storeSound) (r : Response) :
    (s.memoryResponse r).storeSound := by
  unfold State.memoryResponse
  dsimp only
  split
  · exact State.orphanResponse_storeSound h.same r
  · split
    · exact State.orphanResponse_storeSound h r
    · split
      · exact State.release_storeSound (State.observe_storeSound h.same _ _) _
      · exact State.release_storeSound (State.observeAndOffer_storeSound h.same _ _ _ _) _

theorem State.takeResponse_storeSound {s : State} (h : s.storeSound) (r : Response) :
    (s.takeResponse r).storeSound := by
  have absorbed := (s.spillResponse_storesNoMore r.tag r.status).sound h
  unfold State.takeResponse
  split
  · dsimp only
    split
    · exact absorbed
    · exact State.orphanResponse_storeSound absorbed r
  · exact State.memoryResponse_storeSound h r

theorem State.expireEntry_storeSound {s : State} (h : s.storeSound) (e : Entry) : (s.expireEntry e).storeSound := by
  unfold State.expireEntry
  split
  · exact State.observe_storeSound h.same _ _
  · split
    · exact State.release_storeSound (State.observe_storeSound h.same _ _) _
    · exact State.release_storeSound (State.observe_storeSound h.same _ _) _
  · exact h

theorem State.expireAt_storeSound {s : State} (h : s.storeSound) (k : Key) (age : Nat) :
    (s.expireAt k age).storeSound := by
  unfold State.expireAt
  split
  · exact State.whenDue_kept (fun _ => State.expireEntry_storeSound h _) h
  · exact h

/-! ## Resets, edges and the time base -/

theorem reset_storeSound : State.reset.storeSound := resetIsSound.2.2.2.1

theorem State.fullResetEffect_storeSound (s : State) (abandoned : Bool) : (s.fullResetEffect abandoned).storeSound := by
  rw [State.fullResetEffect_eq]
  exact reset_storeSound.same

theorem State.startQuiesce_storeSound {s : State} (h : s.storeSound) : s.startQuiesce.storeSound := by
  unfold State.startQuiesce
  dsimp only
  split
  · exact State.fullResetEffect_storeSound _ _
  · exact State.StoresNoMore.sound (s := s) { State.StoresNoMore.rfl' s with waits := fun hp => by cases hp } h

theorem State.captureReset_storeSound {s : State} (h : s.storeSound) : s.captureReset.storeSound := by
  have emptied : s.captureEmptied.storeSound :=
    State.storeSound_of_closed h.1 (fun _ e he => by cases he) (by simp [State.captureEmptied]) rfl rfl
      (Nat.zero_le _) (Nat.zero_le _)
  rw [State.captureReset_eq]
  refine (State.followHold_storesNoMore _).sound ?_
  rcases s.captureEmptied.spillCaptureReset_cases with hc | hc <;> rw [hc]
  · exact emptied.same
  · exact emptied

theorem State.triginRise_storeSound {s : State} (h : s.storeSound) (l : LineRise) : (s.triginRise l).storeSound := by
  unfold State.triginRise
  dsimp only
  split
  · exact State.triginEdgeSeen_storeSound h.same
  · exact h.same

/-- The store is told of an epoch change in the open record alone. -/
theorem State.realigned_storesNoMore (s : State) (d : Int) : s.StoresNoMore (s.realigned d) where
  __ := State.StoresNoMore.rfl' s
  observations := by simp [State.realigned, State.tellEpochChange, Function.comp_def]

theorem State.pulse_storeSound {s : State} (h : s.storeSound) : s.pulse.storeSound := by
  have slips : ∀ {t : State} (c : Bool), t.storeSound → (if c then t.slip else t).storeSound := fun c ht => by
    split
    · exact State.observe_storeSound ht.same _ _
    · exact ht
  have realigns : ∀ {t : State} (c : Bool) (d : Int), t.storeSound → (if c then t.realign d else t).storeSound :=
    fun {t} c d ht => by
      split
      · exact State.observe_storeSound ((t.realigned_storesNoMore d).sound ht) _ _
      · exact ht
  have recorded : ∀ d, (s.recordPulse d).storeSound := fun _ => h.same
  exact (realigns _ _ (slips _ (recorded _))).same

theorem State.syncinRise_storeSound {s : State} (h : s.storeSound) (l : LineRise) : (s.syncinRise l).storeSound := by
  unfold State.syncinRise
  dsimp only
  split
  · exact State.pulse_storeSound h.same
  · exact h.same

theorem State.loseSync_storeSound {s : State} (h : s.storeSound) : s.loseSync.storeSound :=
  State.observe_storeSound h.same _ _

theorem State.tick_storeSound {s : State} (h : s.storeSound) : s.tick.storeSound := by
  refine State.StoresNoMore.sound (s := s) { State.StoresNoMore.rfl' s with capturing := ?_ } h
  unfold State.tick
  cases ht : s.trigger.state <;> simp [ht, TriggerState.tick]

/-! ## The management port -/

theorem State.frame_storeSound {s : State} (hs : s.storeSound) (f : Frame) (need : Nat)
    {act : State → State × Result} (hact : (act s).1.storeSound) : (s.frame f need act).storeSound :=
  State.frame_kept f need (fun h => h.same) (fun _ h _ => h.same) (fun _ => hact) hs

theorem State.doneFrame_storeSound {s : State} (hs : s.storeSound) (f : Frame) (need : Nat) {act : State → State}
    (hact : (act s).storeSound) : (s.doneFrame f need act).storeSound :=
  State.frame_storeSound hs f need hact

theorem State.readFrame_storesNoMore (s : State) (f : Frame) (w : Option Word) : s.StoresNoMore (s.readFrame f w) := by
  unfold State.readFrame
  repeat' split
  all_goals exact .of_eq

theorem State.statusFrame_storesNoMore (s : State) (f : Frame) (i : BitVec 16) :
    s.StoresNoMore (s.statusFrame f i) := by
  unfold State.statusFrame
  dsimp only
  repeat' split
  all_goals exact .of_eq

theorem State.recordFrame_storesNoMore (s : State) (f : Frame) (o : BitVec 16) (k : Option Nat) :
    s.StoresNoMore (s.recordFrame f o k) := by
  unfold State.recordFrame
  repeat' split
  all_goals exact .of_eq

/-! ## Every event -/

theorem Instr.effect_storeSound (c : Instr) (s : State) (hs : s.storeSound) : (Instr.effect c s).storeSound := by
  cases c with
  | requestPresented r => exact State.presentRequest_storeSound hs r
  | take => exact State.takePresented_storeSound hs
  | holdExpiry => exact State.whenDue_kept (fun _ => hs.same) hs
  | grant => exact s.arbitrate_storesNoMore.sound hs
  | dPortTake => exact s.takeDownstream_storesNoMore.sound hs
  | dPortResponse r => exact State.takeResponse_storeSound hs r
  | overdueExpiry i t a => exact State.expireAt_storeSound hs ⟨i, t⟩ a
  | fullReset f => exact State.doneFrame_storeSound hs f 1 (State.startQuiesce_storeSound hs)
  | quiesceComplete => exact State.whenDue_kept (fun _ => State.fullResetEffect_storeSound _ _) (s := s) hs
  | quiesceAbandon => exact State.whenDue_kept (fun _ => State.fullResetEffect_storeSound _ _) (s := s) hs
  | porRstn => exact hs
  | stageTimeout => exact State.whenDue_kept (State.timeOutStage_storeSound hs) hs
  | triginEdge l => exact State.triginRise_storeSound hs l
  | trigoutPulseEnd => exact State.whenDue_kept (fun _ => hs.same) hs
  | readActive f i => exact (s.readFrame_storesNoMore f _).sound hs
  | readStaged f i => exact (s.readFrame_storesNoMore f _).sound hs
  | writeStaged f i w => exact State.frame_storeSound hs f _ (State.writeStagedWord_storeSound hs i w)
  | readStatus f i => exact (s.statusFrame_storesNoMore f i).sound hs
  | rawTimeSnapshot f => exact (s.statusFrame_storesNoMore f _).sound hs
  | apply f => exact State.frame_storeSound hs f _ (State.applyCommand_storeSound hs)
  | applyTakesEffect => exact State.takeDueApply_storeSound hs
  | arm f => exact State.frame_storeSound hs f _ (State.armUnit_storeSound hs)
  | disarm f => exact State.doneFrame_storeSound hs f _ (State.disarmUnit_storeSound hs)
  | force f => exact State.frame_storeSound hs f _ (State.forceUnit_storeSound hs _)
  | alignOnce f => exact State.doneFrame_storeSound hs f _ hs.same
  | clearCounters f => exact State.doneFrame_storeSound hs f _ hs.same
  | ackConditions f m => exact State.doneFrame_storeSound hs f _ hs.same
  | writeAlertEnable f m => exact State.doneFrame_storeSound hs f _ hs.same
  | readRecord f o k => exact (s.recordFrame_storesNoMore f o k).sound hs
  | discardHead f => exact State.frame_storeSound hs f _ (s.discardHead_storesNoMore.sound hs)
  | spillResume f => exact State.frame_storeSound hs f _ (s.spillResume_storesNoMore.sound hs)
  | spillSkip f => exact State.frame_storeSound hs f _ (s.spillSkip_storesNoMore.sound hs)
  | captureReset f => exact State.doneFrame_storeSound hs f _ (State.captureReset_storeSound hs)
  | syncPulse l => exact State.syncinRise_storeSound hs l
  | lossWatchExpiry => exact State.whenDue_kept (fun _ => State.loseSync_storeSound hs) hs
  | unknownCommandByte f b => exact State.frame_storeSound hs f _ hs
  | resetEnd => exact hs

theorem storeSound_keptByDueEvents : KeptByDueEvents State.storeSound where
  bookkeeping _ _ _ h := h.same
  beginEvent _ h := h.same
  takeDueApply _ h := State.takeDueApply_storeSound h
  tick _ h := State.tick_storeSound h
  powerOn _ _ := reset_storeSound.same
  endReset _ h := h.same
  effect := Instr.effect_storeSound

/-- Settles O57: only a close and a fire store more, a record fits in what its fire reserved, and an apply waits for its
close. -/
theorem recordStoreStaysSound : Obligations.RecordStoreStaysSound := fun _ _ hs ht =>
  storeSound_keptByDueEvents.step hs ht

end Sys2Proof.Machine
end

section
/-! SUPPORT. The spill engine's invariant: what it reads, when a resting engine and an attempt that begins meet it, and
that a placement keeps it. -/

namespace Sys2Proof.Machine

-- One theorem at a time: each would otherwise hold a thread of its own.
set_option Elab.async false

/-! ## What the invariant reads -/

/-- Route SPILL with a valid ring (R113). -/
def ParamSet.spills (p : ParamSet) : Prop := p.drainRoute? = some .spill ∧ p.ringValid = true

/-- Every record of the directory is READY (R104). -/
def State.allReady (s : State) : Prop := ∀ e ∈ s.store.directory, e.state = .ready

/-- The kind of the attempt that runs (R112). -/
def State.attemptKind (s : State) : Option AttemptKind := s.spill.attempt.map Attempt.kind

theorem State.writesRecord_iff (s : State) : s.writesRecord = true ↔ s.attemptKind = some .record := by
  unfold State.writesRecord State.attemptKind
  cases s.spill.attempt <;> simp

theorem State.writesInit_iff (s : State) : s.writesInit = true ↔ s.attemptKind = some .init := by
  unfold State.writesInit State.attemptKind
  cases s.spill.attempt <;> simp

/-- The invariant of the head: a record attempt has a head, which is SPILLING, and no other record is. -/
theorem State.headSound_iff (s : State) : s.headSound ↔
    (s.attemptKind = some .record → s.store.directory ≠ []) ∧
      (∀ h, s.store.directory.head? = some h → (h.state = .spilling ↔ s.attemptKind = some .record)) ∧
      ∀ e ∈ s.store.directory.tail, e.state = .ready := by
  unfold State.headSound
  rw [← s.writesRecord_iff]
  cases s.store.directory <;> simp

/-- The engine and the kind of its attempt, the directory, and whether the set spills, are as they were. -/
structure State.SameEngine (s t : State) : Prop where
  engine : t.spill.engine = s.spill.engine
  kind : t.attemptKind = s.attemptKind
  directory : t.store.directory = s.store.directory
  spills : t.config.active.spills ↔ s.config.active.spills

theorem State.SameEngine.rfl' (s : State) : s.SameEngine s := ⟨rfl, rfl, rfl, .rfl⟩

theorem State.SameEngine.trans {s t u : State} (h : s.SameEngine t) (k : t.SameEngine u) : s.SameEngine u :=
  ⟨k.engine.trans h.engine, k.kind.trans h.kind, k.directory.trans h.directory, k.spills.trans h.spills⟩

theorem State.attempt_isSome (s : State) : s.spill.attempt.isSome = s.attemptKind.isSome :=
  Option.isSome_map.symm

theorem State.SameEngine.sound {s t : State} (h : s.SameEngine t) (hs : s.engineSound) : t.engineSound := by
  obtain ⟨hoff, hattempt, hinit, hhead⟩ := hs
  rw [s.attempt_isSome] at hattempt
  rw [s.writesInit_iff] at hinit
  refine ⟨?_, ?_, ?_, t.headSound_iff.2 ?_⟩
  · rw [h.engine]
    exact hoff.trans (not_congr h.spills.symm)
  · rw [t.attempt_isSome, h.kind, h.engine]
    exact hattempt
  · rw [t.writesInit_iff, h.kind, h.engine]
    exact hinit
  · rw [h.kind, h.directory]
    exact s.headSound_iff.1 hhead

/-- A change that the invariant does not read keeps it. -/
theorem State.engineSound.same {s t : State} (h : s.engineSound) (he : t.spill.engine = s.spill.engine := by rfl)
    (hk : t.attemptKind = s.attemptKind := by rfl) (hd : t.store.directory = s.store.directory := by rfl)
    (ha : t.config.active = s.config.active := by rfl) : t.engineSound :=
  State.SameEngine.sound ⟨he, hk, hd, by rw [ha]⟩ h

/-! ## What the invariant gives -/

section

variable {s : State} (h : s.engineSound)

include h

theorem State.engineSound.spills (he : s.spill.engine ≠ .off) : s.config.active.spills :=
  not_not.1 (he ∘ h.1.2)

/-- An attempt runs in INIT, WRITING or PUBLISH alone. -/
theorem State.engineSound.runs {k : AttemptKind} (hk : s.attemptKind = some k) :
    s.spill.engine = .init ∨ s.spill.engine = .writing ∨ s.spill.engine = .publish :=
  h.2.1.1 (by rw [s.attempt_isSome, hk]; rfl)

theorem State.engineSound.spills_of_runs {k : AttemptKind} (hk : s.attemptKind = some k) : s.config.active.spills :=
  h.spills fun ho => by have := h.runs hk; simp [ho] at this

/-- In every other state no attempt runs. -/
theorem State.engineSound.rests
    (hn : ¬(s.spill.engine = .init ∨ s.spill.engine = .writing ∨ s.spill.engine = .publish)) :
    s.attemptKind = none := by
  have := h.2.1.not.2 hn
  rwa [s.attempt_isSome, Option.not_isSome_iff_eq_none] at this

theorem State.engineSound.init_iff : s.spill.engine = .init ↔ s.attemptKind = some .init :=
  h.2.2.1.trans s.writesInit_iff

theorem State.engineSound.tail_ready : ∀ e ∈ s.store.directory.tail, e.state = .ready :=
  (s.headSound_iff.1 h.2.2.2).2.2

/-- While no record attempt runs, every record is READY. -/
theorem State.engineSound.allReady (hk : s.attemptKind ≠ some .record) : s.allReady := by
  obtain ⟨-, hhead, htail⟩ := s.headSound_iff.1 h.2.2.2
  intro e he
  cases hd : s.store.directory with
  | nil => simp [hd] at he
  | cons d rest =>
    rw [hd] at hhead htail he
    rcases List.mem_cons.1 he with rfl | he
    · cases hstate : e.state with
      | ready => rfl
      | spilling => exact absurd ((hhead e rfl).1 hstate) hk
    · exact htail e he

end

/-! ## When the invariant holds -/

theorem State.headSound_of_allReady {s : State} (hr : s.allReady) (hk : s.attemptKind ≠ some .record) :
    s.headSound := by
  refine s.headSound_iff.2 ⟨fun h => absurd h hk, fun h hh => iff_of_false ?_ hk, fun e he => ?_⟩
  · simp [hr h (List.mem_of_head? hh)]
  · exact hr e (List.mem_of_mem_tail he)

/-- An engine without an attempt, OFF where it must be, with every record READY. -/
theorem State.engineSound_of_rests {s : State} (ho : s.spill.engine = .off ↔ ¬s.config.active.spills)
    (hn : ¬(s.spill.engine = .init ∨ s.spill.engine = .writing ∨ s.spill.engine = .publish))
    (hk : s.spill.attempt = none) (hr : s.allReady) : s.engineSound := by
  have idle : s.attemptKind = none := by simp [State.attemptKind, hk]
  refine ⟨ho, iff_of_false (by simp [hk]) hn, ?_, State.headSound_of_allReady hr (by simp [idle])⟩
  exact iff_of_false (hn ∘ .inl) (by simp [s.writesInit_iff, idle])

/-- An engine that rests in a state other than OFF. -/
theorem State.restEngine_engineSound {s : State} {e : EngineState} (hs : s.config.active.spills) (hr : s.allReady)
    (he : e = .idle ∨ e = .waitSpace ∨ ∃ c, e = .fault c) : (s.restEngine e).engineSound := by
  refine State.engineSound_of_rests (iff_of_false ?_ (not_not.2 hs)) ?_ rfl hr <;>
    rcases he with rfl | rfl | ⟨c, rfl⟩ <;> simp

/-- An attempt that runs in a state that fits its kind, with the head SPILLING exactly for a record attempt. -/
theorem State.engineSound_of_runs {s : State} {k : AttemptKind} (hs : s.config.active.spills)
    (hk : s.attemptKind = some k)
    (he : s.spill.engine = .init ∧ k = .init ∨ (s.spill.engine = .writing ∨ s.spill.engine = .publish) ∧ k ≠ .init)
    (hh : s.headSound) : s.engineSound := by
  refine ⟨iff_of_false ?_ (not_not.2 hs), iff_of_true (by rw [s.attempt_isSome, hk]; rfl) ?_, ?_, hh⟩
  · rcases he with ⟨he, -⟩ | ⟨he | he, -⟩ <;> simp [he]
  · rcases he with ⟨he, -⟩ | ⟨he, -⟩
    · exact .inl he
    · exact .inr he
  · rw [s.writesInit_iff, hk, Option.some_inj]
    rcases he with ⟨he, hk⟩ | ⟨he | he, hk⟩ <;> simp [he, hk]

/-! ## Placements (R115, R117) -/

theorem State.startInit_engineSound {s : State} (hs : s.config.active.spills) (hr : s.allReady) :
    s.startInit.engineSound :=
  State.engineSound_of_runs hs rfl (.inl ⟨rfl, rfl⟩) 
    (State.headSound_of_allReady hr (by simp [State.attemptKind, State.startInit, initAttempt]))

/-- Whatever the outcome of a placement, its engine meets the invariant, wherever every record was READY. -/
theorem State.placeHead_engineSound {s : State} (hs : s.config.active.spills) (hr : s.allReady) :
    s.placeHead.engineSound := by
  unfold State.placeHead
  split
  · exact State.restEngine_engineSound hs hr (.inl rfl)
  · rename_i h rest hd
    split
    · exact (State.restEngine_engineSound hs hr (.inr (.inr ⟨_, rfl⟩))).same
    · refine State.engineSound_of_runs (k := .record) hs rfl (.inr ⟨.inl rfl, by simp⟩) (State.headSound_iff _ |>.2 ?_)
      simp only [State.setHead_store, State.beginAttempt_store, hd]
      refine ⟨fun _ => by simp, fun e he => ?_, fun e he => hr e ?_⟩
      · obtain rfl := Option.some.inj he
        exact iff_of_true rfl rfl
      · rw [hd]
        exact List.mem_cons_of_mem _ he
    · exact State.engineSound_of_runs (k := .loneWrap) hs rfl (.inr ⟨.inl rfl, by simp⟩)
        (State.headSound_of_allReady hr (by simp [State.attemptKind, loneWrapAttempt]))
    · exact State.restEngine_engineSound hs hr (.inr (.inl rfl))

theorem State.takeHead_engineSound {s : State} (h : s.engineSound) : s.takeHead.engineSound := by
  unfold State.takeHead
  split
  · rename_i hc
    obtain ⟨hidle, -⟩ := hc
    exact State.placeHead_engineSound (h.spills (by simp [hidle])) (h.allReady (by simp [h.rests (by simp [hidle])]))
  · exact h

end Sys2Proof.Machine
end

section
/-! SUPPORT. The spill engine's invariant, event by event. -/

namespace Sys2Proof.Machine

-- One theorem at a time: each would otherwise hold a thread of its own.
set_option Elab.async false

/-! ## Hold, and a head that leaves (R104, R106) -/

theorem State.raise_sameEngine (s : State) (k : Sticky) : s.SameEngine (s.raise k) := ⟨rfl, rfl, rfl, .rfl⟩
theorem State.count_sameEngine (s : State) (c : Counter) : s.SameEngine (s.count c) := ⟨rfl, rfl, rfl, .rfl⟩
theorem State.expireHold_sameEngine (s : State) : s.SameEngine s.expireHold := ⟨rfl, rfl, rfl, .rfl⟩

theorem State.followHold_sameEngine (s : State) : s.SameEngine s.followHold where
  engine := by rw [s.followHold_spill]
  kind := by rw [State.attemptKind, s.followHold_spill]; rfl
  directory := by rw [s.followHold_store]
  spills := by rw [s.followHold_keeps.config]

/-- What stays when the head leaves is READY. -/
theorem State.removeHead_allReady {s : State} (h : s.engineSound) : s.removeHead.allReady := by
  unfold State.allReady State.removeHead
  rw [State.followHold_store]
  exact h.tail_ready

@[simp] theorem State.removeHead_active (s : State) : s.removeHead.config.active = s.config.active := by
  rw [s.removeHead_keeps.config]

@[simp] theorem State.removeHead_spill (s : State) : s.removeHead.spill = s.spill := State.followHold_spill _

/-- A head that is counted out leaves an engine that rests, and the next one is taken. -/
theorem State.nextHead_engineSound {s : State} (h : s.engineSound) (hs : s.config.active.spills) (c : Counter) :
    (((s.removeHead.count c).restEngine .idle).takeHead).engineSound := by
  have counted : ∀ {t : State}, t.config.active.spills → t.allReady → ((t.count c).restEngine .idle).engineSound :=
    fun ht hr => State.restEngine_engineSound ht hr (.inl rfl)
  exact State.takeHead_engineSound (counted (by simpa using hs) (State.removeHead_allReady h))

/-- DISCARD_HEAD acts under route PORT alone, where the engine is OFF. -/
theorem State.discardHead_engineSound {s : State} (h : s.engineSound) : s.discardHead.1.engineSound := by
  unfold State.discardHead
  split
  · rename_i hp
    have port : s.config.active.drainRoute? = some .port := by
      simpa [State.routeIsPort] using (Bool.and_eq_true_iff.1 hp).1
    have off : s.spill.engine = .off := h.1.2 fun hs => by simp [hs.1] at port
    have rests := h.rests (by simp [off])
    refine (State.count_sameEngine _ _).sound ?_
    refine State.engineSound_of_rests ?_ (by simp [off]) ?_ (State.removeHead_allReady h)
    · rw [State.removeHead_spill, State.removeHead_active]
      exact h.1
    · rw [State.removeHead_spill]
      exact Option.map_eq_none_iff.1 rests
  · exact h

/-! ## Answers to spill writes (R119–R122, R130, R131) -/

theorem State.failAttempt_engineSound {s : State} (h : s.engineSound) (hs : s.config.active.spills) (c : FaultCause) :
    (s.failAttempt c).engineSound := by
  refine State.engineSound_of_rests (iff_of_false (by simp [State.failAttempt]) (not_not.2 hs))
    (by simp [State.failAttempt]) rfl fun e he => ?_
  have tail := h.tail_ready
  simp only [State.failAttempt, State.raise_store, State.setHead_store, State.endAttempt_store] at he
  cases hd : s.store.directory with
  | nil => simp [hd] at he
  | cons d rest =>
    rw [hd] at he tail
    rcases List.mem_cons.1 he with rfl | he
    · rfl
    · exact tail e he

theorem State.bodyAcknowledged_engineSound {s : State} (h : s.engineSound) {a : Attempt}
    (ha : s.spill.attempt = some a) : (s.bodyAcknowledged a).engineSound := by
  have kind : s.attemptKind = some a.kind := by rw [State.attemptKind, ha]; rfl
  have spills := h.spills_of_runs kind
  have publishes : a.kind ≠ .init →
      (s.beginAttempt .publish { a with unacknowledged := a.unacknowledged - 1 }).engineSound := fun hk => by
    refine State.engineSound_of_runs (k := a.kind) spills rfl (.inr ⟨.inr rfl, hk⟩) ((State.headSound_iff _).2 ?_)
    have head := s.headSound_iff.1 h.2.2.2
    rwa [kind] at head
  unfold State.bodyAcknowledged
  dsimp only
  split
  · split
    · rename_i hk
      exact State.takeHead_engineSound
        (State.restEngine_engineSound spills (h.allReady (by simp [kind, hk])) (.inl rfl))
    · rename_i hk
      exact publishes (by simp [hk])
    · rename_i hk
      exact publishes (by simp [hk])
  · exact h.same rfl kind.symm

theorem State.currentAnswered_engineSound {s : State} (h : s.engineSound) {a : Attempt}
    (ha : s.spill.attempt = some a) (role : WriteRole) (status : Status) :
    (s.currentAnswered a role status).engineSound := by
  have kind : s.attemptKind = some a.kind := by rw [State.attemptKind, ha]; rfl
  have spills := h.spills_of_runs kind
  have published : ∀ p w, (s.recordPublished p w).engineSound := fun p w =>
    State.nextHead_engineSound (s := s.setProducer p w) h.same spills .spilled
  unfold State.currentAnswered
  split
  · exact State.failAttempt_engineSound h spills _
  · exact State.bodyAcknowledged_engineSound h ha
  · split
    · rename_i p w _ hk
      exact State.placeHead_engineSound (s := (s.setProducer p w).restEngine .idle) spills
        (h.allReady (by simp [kind, hk]))
    · exact published _ _
    · exact published _ _

theorem State.staleAnswered_engineSound {s : State} (h : s.engineSound) (role : WriteRole) (status : Status) :
    (s.staleAnswered role status).engineSound := by
  unfold State.staleAnswered
  split
  · exact h
  · split
    · exact State.takeHead_engineSound h.same
    · exact State.takeHead_engineSound h

theorem State.spillResponse_engineSound {s : State} (h : s.engineSound) (tag : Tag) (status : Status) :
    (s.spillResponse tag status).1.engineSound := by
  have freed : (s.freeTag tag.toNat).engineSound := h.same
  unfold State.spillResponse
  split
  · split
    · dsimp only
      split
      · exact State.staleAnswered_engineSound freed _ _
      · split
        · rename_i ha
          exact State.currentAnswered_engineSound freed ha _ _
        · exact freed
    · exact h
  · exact freed
  · exact h
  · exact h

/-! ## The consumer word and recovery (R116, R124, R125) -/

theorem State.consumerOffer_engineSound {s : State} (h : s.engineSound) (sn : Snoop) :
    (s.consumerOffer sn).engineSound := by
  unfold State.consumerOffer State.judgeConsumer
  repeat' split
  · exact h
  · dsimp only
    split
    · rename_i hw
      have waits : s.spill.engine = .waitSpace := hw
      exact State.placeHead_engineSound (h.spills (by simp [waits])) (h.allReady (by simp [h.rests (by simp [waits])]))
    · exact h.same
  · exact h.same
  · exact h.same

theorem State.spillResume_engineSound {s : State} (h : s.engineSound) : s.spillResume.1.engineSound := by
  have faulted : ∀ {c}, s.spill.engine = .fault c → s.config.active.spills ∧ s.allReady := fun hf =>
    ⟨h.spills (by simp [hf]), h.allReady (by simp [h.rests (by simp [hf])])⟩
  unfold State.spillResume
  split
  · rename_i hf
    exact State.startInit_engineSound (faulted hf).1 (faulted hf).2
  case h_2 hf | h_3 hf | h_4 hf => exact State.placeHead_engineSound (faulted hf).1 (faulted hf).2
  all_goals exact h

theorem State.spillSkip_engineSound {s : State} (h : s.engineSound) : s.spillSkip.1.engineSound := by
  unfold State.spillSkip
  split
  case h_1 hf | h_2 hf | h_3 hf => exact State.nextHead_engineSound h (h.spills (by simp [hf])) .skipped
  all_goals exact h

/-! ## Records (R100) -/

theorem State.fileRecord_spill (s : State) (r : OpenRecord) : (s.fileRecord r).spill = s.spill := by
  unfold State.fileRecord
  dsimp only
  split <;> split <;> rfl

/-- A record that is filed is READY, at the tail. -/
theorem State.fileRecord_engineSound {s : State} (h : s.engineSound) (r : OpenRecord) :
    (s.fileRecord r).engineSound := by
  have kind : (s.fileRecord r).attemptKind = s.attemptKind := by rw [State.attemptKind, s.fileRecord_spill]; rfl
  have ready : ∀ e ∈ [DirectoryEntry.mk r.number r.cells .ready], e.state = .ready := by simp
  obtain ⟨hoff, hattempt, hinit, hhead⟩ := h
  obtain ⟨hsome, hstate, htail⟩ := s.headSound_iff.1 hhead
  unfold State.engineSound State.writesInit
  rw [s.fileRecord_spill, (s.fileRecord_keeps r).config]
  refine ⟨hoff, hattempt, hinit, (State.headSound_iff _).2 ?_⟩
  rw [kind, s.fileRecord_store]
  cases hd : s.store.directory with
  | nil =>
    rw [hd] at hsome
    refine ⟨fun _ => by simp, fun e he => iff_of_false ?_ fun hk => hsome hk rfl, fun e he => by simp at he⟩
    obtain rfl := Option.some.inj he
    simp
  | cons d rest =>
    rw [hd] at hstate htail
    refine ⟨fun _ => by simp, hstate, fun e he => ?_⟩
    rcases List.mem_append.1 he with he | he
    · exact htail e he
    · exact ready e he

theorem State.leaveCapture_sameEngine (s : State) : s.SameEngine s.leaveCapture := by
  unfold State.leaveCapture
  split <;> exact ⟨rfl, rfl, rfl, .rfl⟩

theorem State.closeRecord_engineSound {s : State} (h : s.engineSound) (r : OpenRecord) :
    (s.closeRecord r).engineSound := by
  have filed := State.fileRecord_engineSound h r
  refine (State.followHold_sameEngine _).sound (State.takeHead_engineSound ?_)
  split
  · exact filed.same
  · exact (State.leaveCapture_sameEngine _).sound filed

theorem State.fire_engineSound {s : State} (h : s.engineSound) (c : TriggerCause) (b : Bool) :
    (s.fire c b).engineSound := by
  have opened : (s.openFor c b).engineSound := h.same
  unfold State.fire
  split
  · dsimp only
    split
    · exact State.closeRecord_engineSound opened _
    · exact (State.followHold_sameEngine _).sound opened
  · exact h.same

theorem State.offer_engineSound {s : State} (h : s.engineSound) (o : Observation) :
    (s.offer o).state.engineSound := by
  unfold State.offer
  split
  · exact h
  · split
    · exact h.same
    · dsimp only
      split
      · dsimp only
        exact State.closeRecord_engineSound h _
      · split
        · dsimp only
          exact State.closeRecord_engineSound h _
        · exact h.same

theorem State.abortRecord_engineSound {s : State} (h : s.engineSound) : s.abortRecord.engineSound := by
  unfold State.abortRecord
  split
  · exact State.closeRecord_engineSound h _
  · exact h.same

/-! ## The trigger unit -/

theorem State.satisfyStage_engineSound {s : State} (h : s.engineSound) (n : Nat) (b : Bool) :
    (s.satisfyStage n b).engineSound := by
  unfold State.satisfyStage
  split
  · exact h.same
  · exact State.fire_engineSound h _ _
  · exact h

theorem State.evaluateTrigger_engineSound {s : State} (h : s.engineSound) (o : Observation) :
    (s.evaluateTrigger o).engineSound := by
  unfold State.evaluateTrigger State.evaluateHits
  split
  · exact h
  · dsimp only
    split
    · split
      · exact State.satisfyStage_engineSound h _ _
      · exact h.same
    · split
      · exact State.satisfyStage_engineSound h _ _
      · exact h
    · exact h
    · exact h
  · split
    · exact h.same
    · exact h

theorem State.triginEdgeSeen_engineSound {s : State} (h : s.engineSound) : s.triginEdgeSeen.engineSound := by
  unfold State.triginEdgeSeen
  split
  · split
    · exact State.satisfyStage_engineSound h _ _
    · exact h
  · exact State.fire_engineSound h _ _
  · exact h.same
  · exact h.same
  · exact h

theorem State.armUnit_engineSound {s : State} (h : s.engineSound) : s.armUnit.1.engineSound := by
  unfold State.armUnit
  split
  · split
    · exact h.same
    · exact h
  · exact h
  · exact h

theorem State.disarmUnit_engineSound {s : State} (h : s.engineSound) : s.disarmUnit.engineSound := by
  unfold State.disarmUnit
  split
  · exact h
  · exact h.same
  · exact State.abortRecord_engineSound h

theorem State.forceUnit_engineSound {s : State} (h : s.engineSound) (c : TriggerCause) :
    (s.forceUnit c).1.engineSound := by
  unfold State.forceUnit
  split
  · exact h
  · exact State.fire_engineSound h _ _
  · exact h.same

/-! ## Observations and offers -/

theorem State.observe_engineSound {s : State} (h : s.engineSound) (b : ObsBody) (d : Option Beat) :
    (s.observe b d).engineSound := by
  have offered : ((s.numbered (s.makeObservation b d)).offer (s.makeObservation b d)).state.engineSound :=
    State.offer_engineSound h.same _
  unfold State.observe State.observationPath
  split
  · dsimp only
    split
    · exact offered.same
    · exact State.evaluateTrigger_engineSound offered.same _
  · exact h

theorem State.decodeCommand_engineSound {s : State} (h : s.engineSound) (v : Cell) :
    (s.decodeCommand v).engineSound := by
  have counted : ∀ {t : State}, t.engineSound → (t.count .controlInterpreted).engineSound := fun ht => ht.same
  unfold State.decodeCommand
  dsimp only
  repeat' split
  · exact counted (State.armUnit_engineSound h)
  · exact counted (State.disarmUnit_engineSound h)
  · exact counted (State.forceUnit_engineSound h _)
  · exact counted (State.observe_engineSound h _ _)
  · exact h.same
  · exact h.same

theorem State.snoopOffer_engineSound {s : State} (h : s.engineSound) (sn : Snoop) (i : Initiator) :
    (s.snoopOffer sn i).engineSound := by
  unfold State.snoopOffer State.commandOffer
  repeat' split
  · exact h
  · exact h.same
  · exact h.same
  · exact State.decodeCommand_engineSound h _
  · exact State.consumerOffer_engineSound h sn

/-! ## An apply (R129, R154, R155) -/

/-- Sets of one route, base and size agree in what the engine reads of them. -/
theorem ParamSet.spills_of_geometry {p q : ParamSet} (h : p.geometryDiffers q = false) : p.spills ↔ q.spills := by
  obtain ⟨⟨hroute, hbase⟩, hsize⟩ : (p.drainRoute = q.drainRoute ∧ p.spillBase = q.spillBase) ∧
      p.spillSize = q.spillSize := by
    simpa [ParamSet.geometryDiffers] using h
  unfold ParamSet.spills ParamSet.drainRoute? ParamSet.ringValid
  rw [hroute, hbase, hsize]

/-- A due apply that changes route, base or size meets an engine without an attempt (R154). -/
theorem State.attemptKind_of_applyDue {s : State} (h : s.engineSound) (hd : s.applyDue = true)
    (hg : s.config.staged.geometryDiffers s.config.active = true) : s.attemptKind = none := by
  refine h.rests fun hn => ?_
  have waits : s.applyWaitsOnSpill = true := by
    rcases hn with hn | hn | hn <;> simp [State.applyWaitsOnSpill, hg, hn]
  simp [State.applyDue, waits] at hd

theorem State.spillGeometryChanged_engineSound {s : State} (hr : s.allReady) : s.spillGeometryChanged.engineSound := by
  unfold State.spillGeometryChanged
  split
  · exact State.startInit_engineSound (by assumption) hr
  · exact State.engineSound_of_rests (iff_of_true rfl (by assumption)) (by simp) rfl hr

theorem State.applyTrigger_sameEngine (s : State) : s.SameEngine s.applyTrigger := by
  unfold State.applyTrigger
  repeat' split
  all_goals exact ⟨rfl, rfl, rfl, .rfl⟩

theorem State.applyLossWatch_sameEngine (s : State) : s.SameEngine s.applyLossWatch := by
  unfold State.applyLossWatch
  split <;> exact ⟨rfl, rfl, rfl, .rfl⟩

theorem State.applyHold_sameEngine (s : State) : s.SameEngine s.applyHold := by
  refine s.followHold_sameEngine.trans ?_
  unfold State.applyHold
  dsimp only
  split
  · exact State.expireHold_sameEngine _
  · exact .rfl' _

/-- A due apply keeps the engine where the geometry stays, and begins it anew or turns it OFF where it changes. -/
theorem State.takeEffect_engineSound {s : State} (h : s.engineSound) (hd : s.applyDue = true) :
    s.takeEffect.engineSound := by
  have trigger := s.installStaged.applyTrigger_sameEngine
  unfold State.takeEffect
  refine (State.raise_sameEngine _ _).sound <| (State.applyHold_sameEngine _).sound <|
    (State.applyLossWatch_sameEngine _).sound ?_
  split
  · rename_i hg
    have ready := h.allReady (by simp [State.attemptKind_of_applyDue h hd hg])
    exact State.spillGeometryChanged_engineSound fun e he => ready e (trigger.directory ▸ he)
  · rename_i hg
    have installed : s.SameEngine s.installStaged :=
      ⟨rfl, rfl, rfl, ParamSet.spills_of_geometry (Bool.not_eq_true _ ▸ hg)⟩
    exact (installed.trans trigger).sound h

theorem State.takeDueApply_engineSound {s : State} (h : s.engineSound) : s.takeDueApply.engineSound := by
  unfold State.takeDueApply
  split
  · exact State.takeEffect_engineSound h ‹_›
  · exact h

theorem State.applyCommand_engineSound {s : State} (h : s.engineSound) : s.applyCommand.1.engineSound := by
  have waiting : ({ s with config := { s.config with refusalCause := none, applyPending := true } } :
      State).engineSound := h.same
  unfold State.applyCommand State.requestApply
  split
  · exact h
  · split
    · exact h.same
    · exact State.takeDueApply_engineSound waiting

theorem State.writeStagedWord_engineSound {s : State} (h : s.engineSound) (i : BitVec 16) (w : Word) :
    (s.writeStagedWord i w).1.engineSound := by
  unfold State.writeStagedWord
  repeat' split
  all_goals exact h.same

theorem State.observeAndOffer_engineSound {s : State} (h : s.engineSound) (b : ObsBody) (d : Option Beat)
    (o : Option Snoop) (i : Initiator) : (s.observeAndOffer b d o i).engineSound := by
  have spent : (s.spendChoices 1).engineSound := h.same
  unfold State.observeAndOffer
  split
  · exact State.observe_engineSound h b d
  · dsimp only
    split
    · exact State.snoopOffer_engineSound (State.takeDueApply_engineSound (State.observe_engineSound spent b d)) _ i
    · exact State.observe_engineSound (State.takeDueApply_engineSound (State.snoopOffer_engineSound spent _ i)) b d

/-! ## The transit unit's events -/

theorem State.release_engineSound {s : State} (h : s.engineSound) (k : Key) : (s.release k).engineSound := h.same

theorem State.presentRequest_engineSound {s : State} (h : s.engineSound) (r : Request) :
    (s.presentRequest r).engineSound := by
  unfold State.presentRequest
  split
  · exact h
  · refine (State.followHold_sameEngine _).sound ?_
    dsimp only
    split <;> exact h.same

theorem State.takePresented_engineSound {s : State} (h : s.engineSound) : s.takePresented.engineSound := by
  unfold State.takePresented State.takeRequest
  split
  · refine State.whenDue_kept (fun _ => ?_) h
    split
    · exact State.release_engineSound (State.observe_engineSound h.same _ _) _
    · exact h.same
  · exact h

/-- The claim is a write of the attempt that runs, which goes on as the same kind. -/
theorem State.attemptKind_of_spillClaim {s : State} {c : Nat × SpillWrite × WriteRole × Attempt}
    (hc : s.spillClaim = some c) : s.attemptKind = some c.2.2.2.kind := by
  have same : ∀ {a : Attempt} {n}, a.nextWrite = some n → n.2.2.kind = a.kind := fun {a n} hn => by
    unfold Attempt.nextWrite at hn
    split at hn
    · obtain rfl := Option.some.inj hn
      rfl
    · split at hn
      · obtain ⟨w, -, rfl⟩ := Option.map_eq_some_iff.1 hn
        rfl
      · cases hn
  unfold State.spillClaim at hc
  split at hc
  · cases hc
  · split at hc
    · rename_i hn
      obtain rfl := Option.some.inj hc
      obtain ⟨a, ha, hn⟩ := Option.bind_eq_some_iff.1 hn
      rw [State.attemptKind, ha, same hn]
      rfl
    · cases hc

theorem State.grantSpillWrite_engineSound {s : State} (h : s.engineSound)
    {c : Nat × SpillWrite × WriteRole × Attempt} (hc : s.spillClaim = some c) : (s.grantSpillWrite c).engineSound :=
  h.same rfl (State.attemptKind_of_spillClaim hc).symm

theorem State.arbitrate_engineSound {s : State} (h : s.engineSound) : s.arbitrate.engineSound := by
  unfold State.arbitrate
  split
  · exact h
  · split
    · exact h
    · exact h.same
    · exact State.grantSpillWrite_engineSound h ‹_›
    · split
      · exact State.grantSpillWrite_engineSound h ‹_›
      · exact h.same

theorem State.takeDownstream_engineSound {s : State} (h : s.engineSound) : s.takeDownstream.engineSound := by
  unfold State.takeDownstream
  split
  · exact h
  · dsimp only
    split <;> exact h.same

theorem State.memoryResponse_engineSound {s : State} (h : s.engineSound) (r : Response) :
    (s.memoryResponse r).engineSound := by
  unfold State.memoryResponse
  dsimp only
  split
  · exact State.observe_engineSound h.same _ _
  · split
    · exact State.observe_engineSound h.same _ _
    · split
      · exact State.release_engineSound (State.observe_engineSound h.same _ _) _
      · exact State.release_engineSound (State.observeAndOffer_engineSound h.same _ _ _ _) _

theorem State.takeResponse_engineSound {s : State} (h : s.engineSound) (r : Response) :
    (s.takeResponse r).engineSound := by
  have absorbed := State.spillResponse_engineSound h r.tag r.status
  unfold State.takeResponse
  split
  · dsimp only
    split
    · exact absorbed
    · exact State.observe_engineSound absorbed.same _ _
  · exact State.memoryResponse_engineSound h r

theorem State.expireEntry_engineSound {s : State} (h : s.engineSound) (e : Entry) : (s.expireEntry e).engineSound := by
  unfold State.expireEntry
  split
  · exact State.observe_engineSound h.same _ _
  · split
    · exact State.release_engineSound (State.observe_engineSound h.same _ _) _
    · exact State.release_engineSound (State.observe_engineSound h.same _ _) _
  · exact h

theorem State.expireAt_engineSound {s : State} (h : s.engineSound) (k : Key) (age : Nat) :
    (s.expireAt k age).engineSound := by
  unfold State.expireAt
  split
  · exact State.whenDue_kept (fun _ => State.expireEntry_engineSound h _) h
  · exact h

/-! ## Resets, edges and the time base -/

theorem reset_engineSound : State.reset.engineSound := resetIsSound.2.2.2.2.1

theorem State.fullResetEffect_engineSound (s : State) (abandoned : Bool) :
    (s.fullResetEffect abandoned).engineSound := by
  rw [State.fullResetEffect_eq]
  exact reset_engineSound.same

theorem State.startQuiesce_engineSound {s : State} (h : s.engineSound) : s.startQuiesce.engineSound := by
  unfold State.startQuiesce
  dsimp only
  split
  · exact State.fullResetEffect_engineSound _ _
  · exact h.same

/-- CAPTURE_RESET empties the directory: an engine that is OFF, in INIT or after INIT_FAULT stays, and any other
rests. -/
theorem State.captureReset_engineSound {s : State} (h : s.engineSound) : s.captureReset.engineSound := by
  have empty : s.captureEmptied.allReady := fun e he => by cases he
  have stays : s.attemptKind ≠ some .record → s.captureEmptied.engineSound := fun hk =>
    ⟨h.1, h.2.1, h.2.2.1, State.headSound_of_allReady empty hk⟩
  have ends : s.spill.engine ≠ .off → (s.captureEmptied.endAttempt .idle).engineSound := fun he =>
    State.engineSound_of_rests (iff_of_false (by simp) (not_not.2 (h.spills he))) (by simp) rfl empty
  rw [State.captureReset_eq]
  refine (State.followHold_sameEngine _).sound ?_
  unfold State.spillCaptureReset
  have engine : s.captureEmptied.spill.engine = s.spill.engine := rfl
  split
  case h_1 he | h_3 he => exact stays (by simp [h.rests (by simp [← engine, he])])
  case h_2 he => exact stays (by simp [h.init_iff.1 he])
  all_goals
    rename_i he
    exact ends (by simp [← engine, he])

theorem State.triginRise_engineSound {s : State} (h : s.engineSound) (l : LineRise) :
    (s.triginRise l).engineSound := by
  unfold State.triginRise
  dsimp only
  split
  · exact State.triginEdgeSeen_engineSound h.same
  · exact h.same

theorem State.pulse_engineSound {s : State} (h : s.engineSound) : s.pulse.engineSound := by
  have slips : ∀ {t : State} (c : Bool), t.engineSound → (if c then t.slip else t).engineSound := fun c ht => by
    split
    · exact State.observe_engineSound ht.same _ _
    · exact ht
  have realigns : ∀ {t : State} (c : Bool) (d : Int), t.engineSound → (if c then t.realign d else t).engineSound :=
    fun c d ht => by
      split
      · exact State.observe_engineSound ht.same _ _
      · exact ht
  have recorded : ∀ d, (s.recordPulse d).engineSound := fun _ => h.same
  exact (realigns _ _ (slips _ (recorded _))).same

theorem State.syncinRise_engineSound {s : State} (h : s.engineSound) (l : LineRise) :
    (s.syncinRise l).engineSound := by
  unfold State.syncinRise
  dsimp only
  split
  · exact State.pulse_engineSound h.same
  · exact h.same

theorem State.loseSync_engineSound {s : State} (h : s.engineSound) : s.loseSync.engineSound :=
  State.observe_engineSound h.same _ _

/-! ## The management port -/

theorem State.frame_engineSound {s : State} (hs : s.engineSound) (f : Frame) (need : Nat)
    {act : State → State × Result} (hact : (act s).1.engineSound) : (s.frame f need act).engineSound :=
  State.frame_kept f need (fun h => h.same) (fun _ h _ => h.same) (fun _ => hact) hs

theorem State.doneFrame_engineSound {s : State} (hs : s.engineSound) (f : Frame) (need : Nat) {act : State → State}
    (hact : (act s).engineSound) : (s.doneFrame f need act).engineSound :=
  State.frame_engineSound hs f need hact

theorem State.readFrame_sameEngine (s : State) (f : Frame) (w : Option Word) : s.SameEngine (s.readFrame f w) := by
  unfold State.readFrame
  repeat' split
  all_goals exact ⟨rfl, rfl, rfl, .rfl⟩

theorem State.statusFrame_sameEngine (s : State) (f : Frame) (i : BitVec 16) : s.SameEngine (s.statusFrame f i) := by
  unfold State.statusFrame
  dsimp only
  repeat' split
  all_goals exact ⟨rfl, rfl, rfl, .rfl⟩

theorem State.recordFrame_sameEngine (s : State) (f : Frame) (o : BitVec 16) (k : Option Nat) :
    s.SameEngine (s.recordFrame f o k) := by
  unfold State.recordFrame
  repeat' split
  all_goals exact ⟨rfl, rfl, rfl, .rfl⟩

/-! ## Every event -/

theorem Instr.effect_engineSound (c : Instr) (s : State) (hs : s.engineSound) : (Instr.effect c s).engineSound := by
  cases c with
  | requestPresented r => exact State.presentRequest_engineSound hs r
  | take => exact State.takePresented_engineSound hs
  | holdExpiry => exact State.whenDue_kept (fun _ => hs.same) hs
  | grant => exact State.arbitrate_engineSound hs
  | dPortTake => exact State.takeDownstream_engineSound hs
  | dPortResponse r => exact State.takeResponse_engineSound hs r
  | overdueExpiry i t a => exact State.expireAt_engineSound hs ⟨i, t⟩ a
  | fullReset f => exact State.doneFrame_engineSound hs f 1 (State.startQuiesce_engineSound hs)
  | quiesceComplete => exact State.whenDue_kept (fun _ => State.fullResetEffect_engineSound _ _) (s := s) hs
  | quiesceAbandon => exact State.whenDue_kept (fun _ => State.fullResetEffect_engineSound _ _) (s := s) hs
  | porRstn => exact hs
  | stageTimeout => exact State.whenDue_kept (fun _ => hs.same) hs
  | triginEdge l => exact State.triginRise_engineSound hs l
  | trigoutPulseEnd => exact State.whenDue_kept (fun _ => hs.same) hs
  | readActive f i => exact (s.readFrame_sameEngine f _).sound hs
  | readStaged f i => exact (s.readFrame_sameEngine f _).sound hs
  | writeStaged f i w => exact State.frame_engineSound hs f _ (State.writeStagedWord_engineSound hs i w)
  | readStatus f i => exact (s.statusFrame_sameEngine f i).sound hs
  | rawTimeSnapshot f => exact (s.statusFrame_sameEngine f _).sound hs
  | apply f => exact State.frame_engineSound hs f _ (State.applyCommand_engineSound hs)
  | applyTakesEffect => exact State.takeDueApply_engineSound hs
  | arm f => exact State.frame_engineSound hs f _ (State.armUnit_engineSound hs)
  | disarm f => exact State.doneFrame_engineSound hs f _ (State.disarmUnit_engineSound hs)
  | force f => exact State.frame_engineSound hs f _ (State.forceUnit_engineSound hs _)
  | alignOnce f => exact State.doneFrame_engineSound hs f _ hs.same
  | clearCounters f => exact State.doneFrame_engineSound hs f _ hs.same
  | ackConditions f m => exact State.doneFrame_engineSound hs f _ hs.same
  | writeAlertEnable f m => exact State.doneFrame_engineSound hs f _ hs.same
  | readRecord f o k => exact (s.recordFrame_sameEngine f o k).sound hs
  | discardHead f => exact State.frame_engineSound hs f _ (State.discardHead_engineSound hs)
  | spillResume f => exact State.frame_engineSound hs f _ (State.spillResume_engineSound hs)
  | spillSkip f => exact State.frame_engineSound hs f _ (State.spillSkip_engineSound hs)
  | captureReset f => exact State.doneFrame_engineSound hs f _ (State.captureReset_engineSound hs)
  | syncPulse l => exact State.syncinRise_engineSound hs l
  | lossWatchExpiry => exact State.whenDue_kept (fun _ => State.loseSync_engineSound hs) hs
  | unknownCommandByte f b => exact State.frame_engineSound hs f _ hs
  | resetEnd => exact hs

theorem engineSound_keptByDueEvents : KeptByDueEvents State.engineSound where
  bookkeeping _ _ _ h := h.same
  beginEvent _ h := h.same
  takeDueApply _ h := State.takeDueApply_engineSound h
  tick _ h := h.same
  powerOn _ _ := reset_engineSound.same
  endReset _ h := h.same
  effect := Instr.effect_engineSound

/-- Settles O58: an attempt begins with every record READY and ends with its head READY or gone, and an apply that
changes the ring waits for its end. -/
theorem spillEngineStaysSound : Obligations.SpillEngineStaysSound := fun _ _ hs ht =>
  engineSound_keptByDueEvents.step hs ht

end Sys2Proof.Machine
end

section
/-! SUPPORT. The ring's free bytes and the cases of a placement in them. -/

namespace Sys2Proof.Machine

-- One theorem at a time: each would otherwise hold a thread of its own.
set_option Elab.async false

/-! ## The area (R111) -/

/-- A ring's size is 16 KiB or a power of two above. -/
theorem size_of_sizeInRange {size : Nat} (h : sizeInRange size = true) : 16384 ≤ size ∧ size % 8 = 0 := by
  obtain ⟨k, -, hk⟩ := List.any_eq_true.1 h
  obtain rfl : size = 2 ^ (14 + k) := beq_iff_eq.1 hk
  have := Nat.one_le_two_pow (n := k)
  rw [pow_add]
  omega

theorem ParamSet.area_of_ringValid {p : ParamSet} (h : p.ringValid = true) :
    p.area + 64 = p.spillSize.toNat ∧ 16320 ≤ p.area ∧ p.area % 8 = 0 := by
  have := size_of_sizeInRange (Bool.and_eq_true_iff.1 (Bool.and_eq_true_iff.1 h).1).1
  unfold ParamSet.area
  omega

/-! ## The free bytes (R114) -/

section free

variable {area p c : Nat} (h8 : area % 8 = 0) (hp : p < area) (hp8 : p % 8 = 0) (hc : c < area) (hc8 : c % 8 = 0)

include h8 hp hp8 hc hc8

/-- The free bytes reach from the producer offset round to 8 bytes before the consumer offset. -/
theorem ringFree_cases : p < c ∧ ringFree area p c = c - (p + 8) ∨ c ≤ p ∧ ringFree area p c = c + area - (p + 8) := by
  unfold ringFree
  rcases Nat.lt_or_ge p c with h | h
  · refine .inl ⟨h, ?_⟩
    rw [show c + area - (p + 8) = c - (p + 8) + area by omega, Nat.add_mod_right, Nat.mod_eq_of_lt (by omega)]
  · exact .inr ⟨h, Nat.mod_eq_of_lt (by omega)⟩

theorem ringFree_cast : (ringFree area p c : Int) = ((c : Int) - p - 8) % area := by
  rcases ringFree_cases h8 hp hp8 hc hc8 with ⟨h, hf⟩ | ⟨h, hf⟩ <;> rw [hf]
  · rw [Int.emod_eq_of_lt (by omega) (by omega)]
    omega
  · rw [← Int.add_emod_right, Int.emod_eq_of_lt (by omega) (by omega)]
    omega

end free

/-! ## The cases of a placement (R115) -/

section placement

variable {area p f n : Nat} {wrap : Word}

theorem placement_large (hl : area - 8 < 8 * n) : placement area p f n wrap = .oversize := if_pos hl

variable (hl : ¬area - 8 < 8 * n)

include hl

/-- A record that fits and ends before the area's end. -/
theorem placement_fits (hn : 1 ≤ n) (ha : p + 8 * n < area) (hf : 8 * n ≤ f) :
    placement area p f n wrap = .record none p (p + 8 * n) wrap := by
  unfold placement
  rw [if_neg hl, if_pos ⟨ha.le, hf⟩, Nat.mod_eq_of_lt ha, if_neg (by omega)]

/-- A record that fits and ends at the area's end. -/
theorem placement_ends (ha : p + 8 * n = area) (hf : 8 * n ≤ f) :
    placement area p f n wrap = .record none p 0 (wrap + 1) := by
  unfold placement
  rw [if_neg hl, if_pos ⟨ha.le, hf⟩, ha, Nat.mod_self, if_pos rfl]

theorem placement_wraps (ha : area < p + 8 * n) (hf : area - p + 8 * n ≤ f) :
    placement area p f n wrap = .record (some p) 0 (8 * n) (wrap + 1) := by
  unfold placement
  rw [if_neg hl, if_neg (by omega), if_pos ⟨ha, hf⟩]

theorem placement_loneWrap (ha : area < p + 8 * n) (hf : f < area - p + 8 * n) (hm : area - p ≤ f) :
    placement area p f n wrap = .loneWrap p (wrap + 1) := by
  unfold placement
  rw [if_neg hl, if_neg (by omega), if_neg (by omega), if_pos ⟨ha, hm⟩]

theorem placement_noRoom (h : p + 8 * n ≤ area ∧ f < 8 * n ∨ area < p + 8 * n ∧ f < area - p) :
    placement area p f n wrap = .noRoom := by
  unfold placement
  rw [if_neg hl, if_neg (by omega), if_neg (by omega), if_neg (by omega)]

end placement

/-- Which case of the table a placement is in, with its outcome. -/
inductive PlacedAs (area p f n : Nat) (wrap : Word) : Placement → Prop where
  | large (hl : area - 8 < 8 * n) : PlacedAs area p f n wrap .oversize
  | fits (hl : ¬area - 8 < 8 * n) (ha : p + 8 * n < area) (hf : 8 * n ≤ f) :
      PlacedAs area p f n wrap (.record none p (p + 8 * n) wrap)
  | ends (hl : ¬area - 8 < 8 * n) (ha : p + 8 * n = area) (hf : 8 * n ≤ f) :
      PlacedAs area p f n wrap (.record none p 0 (wrap + 1))
  | wraps (hl : ¬area - 8 < 8 * n) (ha : area < p + 8 * n) (hf : area - p + 8 * n ≤ f) :
      PlacedAs area p f n wrap (.record (some p) 0 (8 * n) (wrap + 1))
  | loneWrap (hl : ¬area - 8 < 8 * n) (ha : area < p + 8 * n) (hf : f < area - p + 8 * n) (hm : area - p ≤ f) :
      PlacedAs area p f n wrap (.loneWrap p (wrap + 1))
  | noRoom (hl : ¬area - 8 < 8 * n) (h : p + 8 * n ≤ area ∧ f < 8 * n ∨ area < p + 8 * n ∧ f < area - p) :
      PlacedAs area p f n wrap .noRoom

/-- Every placement is in one case of the table. -/
theorem placement_cases {area p f n : Nat} {wrap : Word} (hn : 1 ≤ n) {o : Placement}
    (ho : placement area p f n wrap = o) : PlacedAs area p f n wrap o := by
  subst ho
  by_cases hl : area - 8 < 8 * n
  · rw [placement_large hl]
    exact .large hl
  have noRoom : (p + 8 * n ≤ area ∧ f < 8 * n ∨ area < p + 8 * n ∧ f < area - p) →
      PlacedAs area p f n wrap (placement area p f n wrap) := fun h => placement_noRoom hl h ▸ .noRoom hl h
  rcases Nat.lt_trichotomy (p + 8 * n) area with ha | ha | ha
  · by_cases hf : 8 * n ≤ f
    · rw [placement_fits hl hn ha hf]
      exact .fits hl ha hf
    · exact noRoom (by omega)
  · by_cases hf : 8 * n ≤ f
    · rw [placement_ends hl ha hf]
      exact .ends hl ha hf
    · exact noRoom (by omega)
  · by_cases hf : area - p + 8 * n ≤ f
    · rw [placement_wraps hl ha hf]
      exact .wraps hl ha hf
    · by_cases hm : area - p ≤ f
      · rw [placement_loneWrap hl ha (by omega) hm]
        exact .loneWrap hl ha (by omega) hm
      · exact noRoom (by omega)

section outcomes

variable {area p f n : Nat} {wrap : Word} (hn : 1 ≤ n)

include hn

theorem placement_oversize_iff : placement area p f n wrap = .oversize ↔ area - 8 < 8 * n := by
  refine ⟨fun h => ?_, placement_large⟩
  cases placement_cases hn h with
  | large hl => exact hl

theorem placement_record_iff (m : Option Nat) (o np : Nat) (w : Word) :
    placement area p f n wrap = .record m o np w ↔ ¬area - 8 < 8 * n ∧
      ((p + 8 * n ≤ area ∧ 8 * n ≤ f ∧ m = none ∧ o = p ∧
          (p + 8 * n < area ∧ np = p + 8 * n ∧ w = wrap ∨ p + 8 * n = area ∧ np = 0 ∧ w = wrap + 1)) ∨
        (area < p + 8 * n ∧ area - p + 8 * n ≤ f ∧ m = some p ∧ o = 0 ∧ np = 8 * n ∧ w = wrap + 1)) := by
  constructor
  · intro h
    cases placement_cases hn h with
    | fits hl ha hf => exact ⟨hl, .inl ⟨ha.le, hf, rfl, rfl, .inl ⟨ha, rfl, rfl⟩⟩⟩
    | ends hl ha hf => exact ⟨hl, .inl ⟨ha.le, hf, rfl, rfl, .inr ⟨ha, rfl, rfl⟩⟩⟩
    | wraps hl ha hf => exact ⟨hl, .inr ⟨ha, hf, rfl, rfl, rfl, rfl⟩⟩
  · rintro ⟨hl, ⟨-, hf, rfl, rfl, ⟨ha, rfl, rfl⟩ | ⟨ha, rfl, rfl⟩⟩ | ⟨ha, hf, rfl, rfl, rfl, rfl⟩⟩
    · exact placement_fits hl hn ha hf
    · exact placement_ends hl ha hf
    · exact placement_wraps hl ha hf

theorem placement_loneWrap_iff (m : Nat) (w : Word) : placement area p f n wrap = .loneWrap m w ↔
    ¬area - 8 < 8 * n ∧ area < p + 8 * n ∧ f < area - p + 8 * n ∧ area - p ≤ f ∧ m = p ∧ w = wrap + 1 := by
  constructor
  · intro h
    cases placement_cases hn h with
    | loneWrap hl ha hf hm => exact ⟨hl, ha, hf, hm, rfl, rfl⟩
  · rintro ⟨hl, ha, hf, hm, rfl, rfl⟩
    exact placement_loneWrap hl ha hf hm

theorem placement_noRoom_iff : placement area p f n wrap = .noRoom ↔
    ¬area - 8 < 8 * n ∧ (p + 8 * n ≤ area ∧ f < 8 * n ∨ area < p + 8 * n ∧ f < area - p) := by
  constructor
  · intro h
    cases placement_cases hn h with
    | noRoom hl h => exact ⟨hl, h⟩
  · exact fun h => placement_noRoom h.1 h.2

end outcomes

/-- Settles O47: the cases of the table, and what each says of the offset its publish writes. -/
theorem placementStaysInFreeBytes : Obligations.PlacementStaysInFreeBytes := by
  refine ⟨fun p => ParamSet.area_of_ringValid, ?_⟩
  intro area p c n wrap h16 h8 hp hp8 hc hc8 hn free outcome large
  have hfree : p < c ∧ free = c - (p + 8) ∨ c ≤ p ∧ free = c + area - (p + 8) := ringFree_cases h8 hp hp8 hc hc8
  refine ⟨ringFree_cast h8 hp hp8 hc hc8, placement_oversize_iff hn, placement_record_iff hn, placement_loneWrap_iff hn,
    placement_noRoom_iff hn, fun m o np w h => ?_, fun m w h => ?_⟩
  · obtain ⟨hl, hplace⟩ := (placement_record_iff hn m o np w).1 h
    change ¬area - 8 < 8 * n at hl
    rcases hplace with ⟨-, hf, rfl, rfl, ⟨ha, rfl, rfl⟩ | ⟨ha, rfl, rfl⟩⟩ | ⟨ha, hf, rfl, rfl, rfl, rfl⟩
    · refine ⟨ha, by omega, ?_, by omega, ha.le, .inl ⟨rfl, rfl⟩, (if_neg (by omega)).symm⟩
      rw [show o + 8 * n + area - o = 8 * n + area by omega, Nat.add_mod_right]
      exact (Nat.mod_le _ _).trans hf
    · refine ⟨by omega, rfl, ?_, by omega, ha.le, .inl ⟨rfl, rfl⟩, (if_pos (by omega)).symm⟩
      exact (Nat.mod_le _ _).trans (by omega)
    · refine ⟨by omega, by omega, ?_, by omega, by omega, .inr ⟨rfl, rfl⟩, (if_pos (by omega)).symm⟩
      exact (Nat.mod_le _ _).trans (by omega)
  · obtain ⟨-, ha, -, hm, rfl, rfl⟩ := (placement_loneWrap_iff hn m w).1 h
    exact ⟨rfl, rfl, hm, by omega⟩

end Sys2Proof.Machine
end

section
/-! SUPPORT. The writes of the spill engine: what it claims next, under which tag, and the bursts of a record. -/

namespace Sys2Proof.Machine

-- One theorem at a time: each would otherwise hold a thread of its own.
set_option Elab.async false

/-! ## The next write (R118, R120) -/

theorem Attempt.nextWrite_body {a : Attempt} {w : SpillWrite} {rest : List SpillWrite} (h : a.writes = w :: rest) :
    a.nextWrite = some (w, .body, { a with writes := rest }) := by
  unfold Attempt.nextWrite
  rw [h]

/-- The publish's turn comes when every other write has been acknowledged. -/
theorem Attempt.nextWrite_publish {a : Attempt} {w : SpillWrite} (hw : a.writes = []) (h0 : a.unacknowledged = 0)
    (hp : a.publish = some w) :
    a.nextWrite = some (w, .publish a.newProducer a.newWrap, { a with publish := none }) := by
  unfold Attempt.nextWrite
  rw [hw, hp]
  exact if_pos h0

theorem Attempt.nextWrite_none {a : Attempt} (hw : a.writes = []) (h : a.unacknowledged ≠ 0 ∨ a.publish = none) :
    a.nextWrite = none := by
  unfold Attempt.nextWrite
  rw [hw]
  rcases h with h | h
  · exact if_neg h
  · simp [h]

/-! ## The claim (R118) -/

theorem anyStale_iff (tags : List TagState) :
    tags.any TagState.isStale = true ↔ ∃ u, TagState.inUse u ∈ tags ∧ u.stale = true := by
  rw [List.any_eq_true]
  constructor
  · rintro ⟨g, hg, hs⟩
    cases g with
    | inUse u => exact ⟨u, hg, hs⟩
    | free | lost => cases hs
  · rintro ⟨u, hu, hs⟩
    exact ⟨_, hu, hs⟩

theorem State.spillPresented_iff (s : State) :
    s.spillPresented = true ↔ ∃ q, s.transit.dPort = some q ∧ q.claimant = .spill := by
  unfold State.spillPresented
  cases s.transit.dPort <;> simp

/-- With neither obstacle the claim is the attempt's next write under the lowest free tag. -/
theorem State.spillClaim_eq {s : State} (hs : ¬∃ u, TagState.inUse u ∈ s.spill.tags ∧ u.stale = true)
    (hp : ¬∃ q, s.transit.dPort = some q ∧ q.claimant = .spill) :
    s.spillClaim = s.spill.freeTag.bind fun t => (s.spill.attempt.bind Attempt.nextWrite).map (t, ·) := by
  have unblocked : ¬(s.spill.tags.any TagState.isStale || s.spillPresented) = true := by
    rw [Bool.or_eq_true, anyStale_iff, s.spillPresented_iff]
    exact not_or.2 ⟨hs, hp⟩
  unfold State.spillClaim
  rw [if_neg unblocked]
  cases s.spill.freeTag <;> cases s.spill.attempt.bind Attempt.nextWrite <;> rfl

theorem State.spillClaim_blocked {s : State} (h : (∃ u, TagState.inUse u ∈ s.spill.tags ∧ u.stale = true) ∨
    ∃ q, s.transit.dPort = some q ∧ q.claimant = .spill) : s.spillClaim = none :=
  if_pos (by rwa [Bool.or_eq_true, anyStale_iff, s.spillPresented_iff])

/-- Without a free tag or a next write nothing is claimed. -/
theorem State.spillClaim_none {s : State}
    (h : s.spill.freeTag = none ∨ s.spill.attempt.bind Attempt.nextWrite = none) : s.spillClaim = none := by
  by_cases hb : (∃ u, TagState.inUse u ∈ s.spill.tags ∧ u.stale = true) ∨
      ∃ q, s.transit.dPort = some q ∧ q.claimant = .spill
  · exact State.spillClaim_blocked hb
  · obtain ⟨hs, hp⟩ := not_or.1 hb
    rw [State.spillClaim_eq hs hp]
    rcases h with h | h
    · rw [h]
      rfl
    · rw [h]
      cases s.spill.freeTag <;> rfl

theorem SpillEngine.freeTag_none {e : SpillEngine} (h : ∀ g ∈ e.tags, g ≠ .free) : e.freeTag = none :=
  List.findIdx?_eq_none_iff.2 fun g hg => beq_eq_false_iff_ne.2 (h g hg)

theorem SpillEngine.freeTag_lowest {e : SpillEngine} {n : Nat} (h : e.tags[n]? = some .free)
    (hlow : ∀ m < n, e.tags[m]? ≠ some .free) : e.freeTag = some n := by
  obtain ⟨hn, hg⟩ := List.getElem?_eq_some_iff.1 h
  refine List.findIdx?_eq_some_iff_getElem.2 ⟨hn, by simp [hg], fun m hm => ?_⟩
  have := hlow m hm
  rw [List.getElem?_eq_getElem (hm.trans hn)] at this
  simpa using this

/-! ## A record's bursts (R118) -/

/-- A burst starts where the one before it ended, and has as many cells as the three limits allow. -/
theorem cutBursts_limits : ∀ (n address : Nat) (cells : List Cell), address % 8 = 0 → ∀ i w,
    (cutBursts n address cells)[i]? = some w →
      let before := (((cutBursts n address cells).take i).map (·.cells.length)).sum
      w.address = address + 8 * before ∧ 1 ≤ w.cells.length ∧
        w.cells.length = min 16 (min (cells.length - before) ((4096 - w.address % 4096) / 8))
  | 0, _, _, _, i, w, hw => by simp [cutBursts] at hw
  | n + 1, address, [], _, i, w, hw => by simp [cutBursts] at hw
  | n + 1, address, c :: cs, h8, i, w, hw => by
    have hpos := burstCells_pos (n := (c :: cs).length) h8 (by simp)
    have hle := (burstCells_le address (c :: cs).length).1
    have first : cutBursts (n + 1) address (c :: cs) =
        ⟨address, (c :: cs).take (burstCells address (c :: cs).length)⟩ ::
          cutBursts n (address + 8 * burstCells address (c :: cs).length)
            ((c :: cs).drop (burstCells address (c :: cs).length)) := by
      simp [cutBursts]
    have taken : ((c :: cs).take (burstCells address (c :: cs).length)).length = burstCells address (c :: cs).length :=
      List.length_take_of_le hle
    rw [first] at hw ⊢
    cases i with
    | zero =>
      obtain rfl := Option.some.inj hw
      exact ⟨rfl, hpos.trans_eq taken.symm, taken⟩
    | succ i =>
      obtain ⟨haddress, hone, hlimits⟩ := cutBursts_limits n _ _ (by omega) i w hw
      dsimp only
      rw [List.take_succ_cons, List.map_cons, List.sum_cons, taken]
      refine ⟨haddress.trans (by omega), hone, hlimits.trans ?_⟩
      rw [List.length_drop, Nat.sub_sub]

/-- Settles O11: the claim, the writes of a record attempt, and its bursts. -/
theorem spillWritesHaveTheirTurn : Obligations.SpillWritesHaveTheirTurn := by
  refine ⟨?_, fun p cells marker o np w => ⟨?_, rfl, rfl, rfl, rfl, rfl⟩,
    fun address cells h8 => ⟨cutBursts_cells _ _ _ h8 le_rfl, cutBursts_limits _ _ _ h8⟩⟩
  · intro s stale presented
    refine ⟨fun h => ?_, fun a ha hw h => ?_, fun a n hs hp ha hn hlow => ?_⟩
    · rcases h with h | h | h | h
      · exact State.spillClaim_blocked (.inl h)
      · exact State.spillClaim_blocked (.inr h)
      · exact State.spillClaim_none (.inl (SpillEngine.freeTag_none h))
      · exact State.spillClaim_none (.inr (by rw [h]; rfl))
    · exact State.spillClaim_none (.inr (by rw [ha]; exact Attempt.nextWrite_none hw h))
    · have claim : s.spillClaim = a.nextWrite.map (n, ·) := by
        rw [State.spillClaim_eq hs hp, SpillEngine.freeTag_lowest hn hlow, ha]
        rfl
      rw [claim]
      refine ⟨fun w rest hw => ?_, fun w hw h0 hpub => ?_⟩
      · rw [Attempt.nextWrite_body hw]
        rfl
      · rw [Attempt.nextWrite_publish hw h0 hpub]
        rfl
  · cases marker <;> rfl

end Sys2Proof.Machine
end


section
/-! SUPPORT. What the spill engine does on its own events: SPILL_RESUME, SPILL_SKIP, and the answers under initiator 15, each
by the state that meets it. -/

namespace Sys2Proof.Machine

-- One theorem at a time: each would otherwise hold a thread of its own.
set_option Elab.async false

/-! ## Taking and removing a head (R104, R117, R131) -/

/-- A stale publish is a matter of the tags alone. -/
theorem State.stalePublishInUse_congr {s t : State} (h : t.spill.tags = s.spill.tags) :
    t.stalePublishInUse ↔ s.stalePublishInUse := by
  unfold State.stalePublishInUse
  rw [h]

/-- No head is taken by an engine that is not IDLE, without a record, or beside a stale publish. -/
theorem State.takeHead_stays {s : State}
    (h : s.spill.engine ≠ .idle ∨ s.store.directory = [] ∨ s.stalePublishInUse) : s.takeHead = s := by
  rcases h with h | h | h
  · exact State.takeHead_busy h
  · exact State.takeHead_empty h
  · exact State.takeHead_stale h

/-- The head leaves, and hold follows the freed store. -/
theorem State.removeHead_eq {s : State} {h : DirectoryEntry} {rest : List DirectoryEntry}
    (hd : s.store.directory = h :: rest) :
    s.removeHead = ({ s with store := { s.store with directory := rest } } : State).followHold := by
  rw [State.removeHead, hd]
  rfl

/-- The state that a head leaves when it is counted out: hold follows the freed store, and the engine is IDLE. -/
def State.headGone (s : State) (rest : List DirectoryEntry) (c : Counter) : State :=
  ((({ s with store := { s.store with directory := rest } } : State).followHold).count c).restEngine .idle

/-- Hold does not read the engine, so the offsets may be set before or after the head leaves. -/
theorem State.headGone_withSpill (s : State) (e : SpillEngine) (rest : List DirectoryEntry) (c : Counter) :
    ({ s with spill := e } : State).headGone rest c =
      { (({ s with store := { s.store with directory := rest } } : State).followHold).count c with
        spill := { e with engine := .idle, attempt := none } } := by
  have followed := State.followHold_withSpill { s with store := { s.store with directory := rest } } e
  exact congrArg (fun t : State => (t.count c).restEngine .idle) followed

section gone

variable {s : State} {rest : List DirectoryEntry} {c : Counter}

theorem State.headGone_directory : (s.headGone rest c).store.directory = rest := by
  unfold State.headGone
  simp

theorem State.headGone_stale : (s.headGone rest c).stalePublishInUse ↔ s.stalePublishInUse :=
  State.stalePublishInUse_congr (by unfold State.headGone; simp)

/-- With no record left, or a stale publish in use, the engine stays IDLE. -/
theorem State.headGone_stays (h : rest = [] ∨ s.stalePublishInUse) :
    (s.headGone rest c).takeHead = s.headGone rest c :=
  State.takeHead_stays (.inr (h.imp State.headGone_directory.trans State.headGone_stale.2))

/-- Otherwise the next head is taken and placed. -/
theorem State.headGone_places {h' : DirectoryEntry} {rest' : List DirectoryEntry} (hr : rest = h' :: rest')
    (hs : ¬s.stalePublishInUse) : (s.headGone rest c).takeHead = (s.headGone rest c).headPlaced h' rest' :=
  State.takeHead_places (State.headGone_directory.trans hr) rfl (State.headGone_stale.not.2 hs)

end gone

/-! ## A placement of the head, by its outcome (R115) -/

/-- The outcome of placing a record of so many cells now. -/
def State.outcomeFor (s : State) (cells : Nat) : Placement :=
  placement s.config.active.area s.spill.producer s.spillFree cells s.spill.wrapCount

section placed

variable {s : State} {h : DirectoryEntry} {rest : List DirectoryEntry}

theorem State.headPlaced_noRoom (ho : s.outcomeFor h.cells.length = .noRoom) :
    s.headPlaced h rest = s.restEngine .waitSpace := by
  unfold State.outcomeFor State.spillFree at ho
  simp only [State.headPlaced, ho]
  rfl

theorem State.headPlaced_oversize (ho : s.outcomeFor h.cells.length = .oversize) :
    s.headPlaced h rest = (s.restEngine (.fault .oversize)).raise .spillFault := by
  unfold State.outcomeFor State.spillFree at ho
  simp only [State.headPlaced, ho]
  rfl

theorem State.headPlaced_loneWrap {m : Nat} {w : Word} (ho : s.outcomeFor h.cells.length = .loneWrap m w) :
    s.headPlaced h rest = s.beginAttempt .writing (loneWrapAttempt s.config.active m w) := by
  unfold State.outcomeFor State.spillFree at ho
  simp only [State.headPlaced, ho]
  rfl

theorem State.headPlaced_record {m : Option Nat} {o np : Nat} {w : Word}
    (ho : s.outcomeFor h.cells.length = .record m o np w) : s.headPlaced h rest =
      ({ s with store := { s.store with directory := { h with state := .spilling } :: rest } } : State).beginAttempt
        .writing (recordAttempt s.config.active h.cells m o np w) := by
  unfold State.outcomeFor State.spillFree at ho
  simp only [State.headPlaced, ho]
  rfl

end placed

/-! ## SPILL_RESUME (R124) -/

theorem exec_spillResume {s : State} {f : Frame} (h : s.takesFrame f 1) : exec (.spillResume f) s =
    .next (s.beginEvent.spillResume.1.answer f [] s.beginEvent.spillResume.2) :=
  (exec_running h.1 (by simp) (by simp)).trans (congrArg _ (State.frame_taken h _))

theorem State.spillResume_init {s : State} (h : s.spill.engine = .fault .initFault) :
    s.spillResume = (s.startInit, .done) := by
  unfold State.spillResume
  rw [h]

theorem State.spillResume_places {s : State} {c : FaultCause} (h : s.spill.engine = .fault c) (hc : c ≠ .initFault) :
    s.spillResume = (s.placeHead, .done) := by
  unfold State.spillResume
  rw [h]
  cases c with
  | initFault => exact absurd rfl hc
  | writeFault | publishFault | oversize => rfl

theorem State.spillResume_refused {s : State} (h : ∀ c, s.spill.engine ≠ .fault c) :
    s.spillResume = (s, .refused) := by
  unfold State.spillResume
  cases he : s.spill.engine with
  | fault c => exact absurd he (h c)
  | off | init | idle | waitSpace | writing | publish => rfl

/-- After another fault the head is placed, before or after the frame's answer alike. -/
theorem exec_spillResume_places {s : State} {f : Frame} (hf : s.takesFrame f 1) {c : FaultCause}
    (he : s.spill.engine = .fault c) (hc : c ≠ .initFault) {h : DirectoryEntry} {rest : List DirectoryEntry}
    (hd : s.store.directory = h :: rest) :
    exec (.spillResume f) s = .next ((s.replied f [] .done).headPlaced h rest) := by
  rw [exec_spillResume hf, State.spillResume_places (s := s.beginEvent) he hc,
    State.placeHead_eq (s := s.beginEvent) hd, State.answer_headPlaced, State.answer_beginEvent]

/-- Settles O40: INIT anew, or the placement by its outcome, or a refusal. -/
theorem spillResumeActs : Obligations.SpillResumeActs := by
  intro s f hf p
  refine ⟨fun he => ?_, fun c h rest he hc hd => ?_, fun hn => ?_⟩
  · rw [exec_spillResume hf, State.spillResume_init (s := s.beginEvent) he]
    rfl
  · intro outcome
    have placed := exec_spillResume_places hf he hc hd
    exact ⟨fun ho => placed.trans (congrArg _ (State.headPlaced_noRoom (s := s.replied f [] .done) ho)),
      fun ho => placed.trans (congrArg _ (State.headPlaced_oversize (s := s.replied f [] .done) ho)),
      fun m w ho => placed.trans (congrArg _ (State.headPlaced_loneWrap (s := s.replied f [] .done) ho)),
      fun m o np w ho => placed.trans (congrArg _ (State.headPlaced_record (s := s.replied f [] .done) ho))⟩
  · rw [exec_spillResume hf, State.spillResume_refused (s := s.beginEvent) hn]
    rfl

/-! ## SPILL_SKIP (R125) -/

theorem exec_spillSkip {s : State} {f : Frame} (h : s.takesFrame f 1) : exec (.spillSkip f) s =
    .next (s.beginEvent.spillSkip.1.answer f [] s.beginEvent.spillSkip.2) :=
  (exec_running h.1 (by simp) (by simp)).trans (congrArg _ (State.frame_taken h _))

theorem State.spillSkip_skips {s : State} {c : FaultCause} (h : s.spill.engine = .fault c) (hc : c ≠ .initFault) :
    s.spillSkip = (s.headSkipped, .done) := by
  unfold State.spillSkip
  rw [h]
  cases c with
  | initFault => exact absurd rfl hc
  | writeFault | publishFault | oversize => rfl

theorem State.spillSkip_refused {s : State}
    (h : (∀ c, s.spill.engine ≠ .fault c) ∨ s.spill.engine = .fault .initFault) : s.spillSkip = (s, .refused) := by
  unfold State.spillSkip
  rcases h with h | h
  · cases he : s.spill.engine with
    | fault c => exact absurd he (h c)
    | off | init | idle | waitSpace | writing | publish => rfl
  · rw [h]

/-- A frame's answer may come before or after the head is skipped. -/
theorem State.answer_headSkipped (s : State) (f : Frame) (data : List Byte) (r : Result) :
    s.headSkipped.answer f data r = (s.answer f data r).headSkipped := by
  unfold State.headSkipped
  rw [State.answer_takeHead, ← State.answer_removeHead]
  rfl

/-- Settles O41: the head leaves and the next is taken before or after the frame's answer alike. -/
theorem spillSkipRemovesHead : Obligations.SpillSkipRemovesHead := by
  intro s f hf
  refine ⟨fun c h rest he hc hd => ?_, fun hn => ?_⟩
  · have skipped : exec (.spillSkip f) s = .next ((s.replied f [] .done).headGone rest .skipped).takeHead := by
      rw [exec_spillSkip hf, State.spillSkip_skips (s := s.beginEvent) he hc, State.answer_headSkipped,
        State.answer_beginEvent, State.headSkipped, State.removeHead_eq (s := s.replied f [] .done) hd]
      rfl
    exact ⟨fun hr => skipped.trans (congrArg _ (State.headGone_stays (s := s.replied f [] .done) hr)),
      fun h' rest' hr hs => skipped.trans (congrArg _ (State.headGone_places (s := s.replied f [] .done) hr hs))⟩
  · rw [exec_spillSkip hf, State.spillSkip_refused (s := s.beginEvent) hn]
    rfl

/-! ## Whose answer it is (R119, R132) -/

section answers

variable {s t : State} {r : Response}

/-- A response of initiator 15 goes to the spill engine (R13). -/
theorem State.takeResponse_spill (h15 : r.initiator = 15) : s.takeResponse r =
    if (s.spillResponse r.tag r.status).2 then (s.spillResponse r.tag r.status).1
    else (s.spillResponse r.tag r.status).1.orphanResponse r :=
  if_pos h15

/-- An answer under initiator 15 that matches a spill write is what the engine makes of it. -/
theorem exec_spillAnswer (hr : s.running) (h15 : r.initiator = 15)
    (ht : s.beginEvent.spillResponse r.tag r.status = (t, true)) : exec (.dPortResponse r) s = .next t := by
  rw [exec_running hr (by simp) (by simp)]
  exact congrArg _ ((State.takeResponse_spill h15).trans (by rw [ht]; rfl))

/-- One that matches none is an orphan too (R17). -/
theorem exec_spillOrphan (hr : s.running) (h15 : r.initiator = 15)
    (ht : s.beginEvent.spillResponse r.tag r.status = (t, false)) :
    exec (.dPortResponse r) s = .next (t.orphanResponse r) := by
  rw [exec_running hr (by simp) (by simp)]
  exact congrArg _ ((State.takeResponse_spill h15).trans (by rw [ht]; rfl))

variable {tag : Tag} {u : TagUse}

theorem State.spillResponse_current (hu : s.spill.tags[tag.toNat]? = some (.inUse u)) (ht : u.taken = true)
    (hs : u.stale = false) {a : Attempt} (ha : s.spill.attempt = some a) (status : Status) :
    s.spillResponse tag status = ((s.freeTag tag.toNat).currentAnswered a u.role status, true) := by
  unfold State.spillResponse
  simp [hu, ht, hs, ha]

theorem State.spillResponse_stale (hu : s.spill.tags[tag.toNat]? = some (.inUse u)) (ht : u.taken = true)
    (hs : u.stale = true) (status : Status) :
    s.spillResponse tag status = ((s.freeTag tag.toNat).staleAnswered u.role status, true) := by
  unfold State.spillResponse
  simp [hu, ht, hs]

theorem State.spillResponse_lost (h : s.spill.tags[tag.toNat]? = some .lost) (status : Status) :
    s.spillResponse tag status = (s.freeTag tag.toNat, false) := by
  unfold State.spillResponse
  rw [h]

/-- Under a tag that is free, past the four, or of a write not yet taken, nothing is matched and nothing changes. -/
theorem State.spillResponse_unmatched (h : s.spill.tags[tag.toNat]? = some .free ∨ s.spill.tags[tag.toNat]? = none ∨
    ∃ u, s.spill.tags[tag.toNat]? = some (.inUse u) ∧ u.taken = false) (status : Status) :
    s.spillResponse tag status = (s, false) := by
  unfold State.spillResponse
  rcases h with h | h | ⟨u, h, ht⟩
  · rw [h]
  · rw [h]
  · simp [h, ht]

end answers

/-! ## Answers to the attempt's writes (R119–R122, R130) -/

section attempt

variable {s : State} {a : Attempt}

theorem State.bodyAcknowledged_goesOn (h : 1 < a.unacknowledged) : s.bodyAcknowledged a =
    { s with spill := { s.spill with attempt := some { a with unacknowledged := a.unacknowledged - 1 } } } :=
  if_neg (Nat.sub_ne_zero_of_lt h)

/-- The last write before a publish gives the publish its turn. -/
theorem State.bodyAcknowledged_publishes (h : a.unacknowledged = 1) (hk : a.kind ≠ .init) :
    s.bodyAcknowledged a = s.beginAttempt .publish { a with unacknowledged := 0 } := by
  unfold State.bodyAcknowledged
  rw [h]
  cases hk' : a.kind with
  | init => exact absurd hk' hk
  | record | loneWrap => rfl

/-- The last write of an INIT ends it. -/
theorem State.bodyAcknowledged_completes (h : a.unacknowledged = 1) (hk : a.kind = .init) :
    s.bodyAcknowledged a = (s.restEngine .idle).takeHead := by
  unfold State.bodyAcknowledged
  rw [h]
  simp [hk]

theorem faultCauseOf_eq (k : AttemptKind) (role : WriteRole) : faultCauseOf k role =
    if k = .init then .initFault else if role = .body then .writeFault else .publishFault := by
  cases k <;> cases role <;> rfl

theorem TagState.toStale_eq : TagState.toStale = fun g => match g with
    | .inUse u => .inUse { u with stale := true }
    | .lost => .lost
    | .free => .free := by
  funext g
  cases g <;> rfl

/-- The publish of a record takes its head out, and the offsets are the published ones. -/
theorem State.recordPublished_eq {h : DirectoryEntry} {rest : List DirectoryEntry}
    (hd : s.store.directory = h :: rest) (np : Nat) (w : Word) :
    s.recordPublished np w = ((s.setProducer np w).headGone rest .spilled).takeHead := by
  unfold State.recordPublished State.headGone
  rw [State.removeHead_eq (s := s.setProducer np w) hd]

end attempt

/-- Settles O48: the answer is to the attempt's write, by its status, the write's role and the attempt's kind. -/
theorem spillAnswersAct : Obligations.SpillAnswersAct := by
  intro s r u a hr h15 hu ht hs ha freed
  have answered : ∀ {status role}, r.status = status → u.role = role →
      exec (.dPortResponse r) s = .next (freed.currentAnswered a role status) := fun hst hrole =>
    hst ▸ hrole ▸ exec_spillAnswer hr h15 (State.spillResponse_current (s := s.beginEvent) hu ht hs ha r.status)
  refine ⟨fun hok hbody => ?_, fun h rest np w hok hpub hd => ?_, fun hfault => ?_⟩
  · have acknowledged : exec (.dPortResponse r) s = .next (freed.bodyAcknowledged a) := answered hok hbody
    refine ⟨fun h1 => ?_, fun h1 hk => ?_, fun h1 hk => ?_⟩
    · rw [acknowledged, State.bodyAcknowledged_goesOn h1]
    · rw [acknowledged, State.bodyAcknowledged_publishes h1 hk]
      rfl
    · rw [acknowledged, State.bodyAcknowledged_completes h1 hk]
      exact ⟨fun h => congrArg _ (State.takeHead_stays (.inr h)),
        fun h rest hd hn => congrArg _ (State.takeHead_places (s := freed.restEngine .idle) hd rfl hn)⟩
  · intro published
    refine ⟨fun hk => ?_, fun hk => ?_⟩
    · intro left t
      have gone : (freed.setProducer np w).headGone rest .spilled = t := by
        exact State.headGone_withSpill s.beginEvent _ rest .spilled
      have acted : exec (.dPortResponse r) s = .next (freed.recordPublished np w) :=
        (answered hok hpub).trans (by unfold State.currentAnswered; rw [hk])
      rw [acted, State.recordPublished_eq (s := freed) hd, ← gone]
      exact ⟨fun h => congrArg _ (State.headGone_stays (s := freed.setProducer np w) h),
        fun h' rest' hrest hn => congrArg _ (State.headGone_places (s := freed.setProducer np w) hrest hn)⟩
    · have acted : exec (.dPortResponse r) s = .next (freed.loneWrapPublished np w) :=
        (answered hok hpub).trans (by unfold State.currentAnswered; rw [hk])
      exact acted.trans (congrArg _ (State.placeHead_eq (s := (freed.setProducer np w).restEngine .idle) hd))
  · have acted : exec (.dPortResponse r) s = .next (freed.failAttempt (faultCauseOf a.kind u.role)) :=
      (answered hfault rfl).trans (by unfold State.currentAnswered; cases u.role <;> rfl)
    rw [acted, faultCauseOf_eq, State.failAttempt, State.endAttempt, TagState.toStale_eq]
    rfl

/-! ## Answers to no write of the attempt (R17, R131, R132) -/

/-- A stale publish that is answered OKAY sets the offsets it carried. -/
def State.afterStalePublish (s : State) (np : Nat) (w : Word) (status : Status) : State :=
  if status = .okay then s.setProducer np w else s

section stale

variable (s : State) (np : Nat) (w : Word) (status : Status)

/-- Whatever the answer, the engine may then take the head. -/
theorem State.staleAnswered_publish :
    s.staleAnswered (.publish np w) status = (s.afterStalePublish np w status).takeHead := by
  cases status <;> rfl

theorem State.afterStalePublish_engine : (s.afterStalePublish np w status).spill.engine = s.spill.engine := by
  cases status <;> rfl

theorem State.afterStalePublish_tags : (s.afterStalePublish np w status).spill.tags = s.spill.tags := by
  cases status <;> rfl

theorem State.afterStalePublish_store : (s.afterStalePublish np w status).store = s.store := by
  cases status <;> rfl

end stale

/-- The orphan's observation names the spill engine's initiator. -/
theorem State.orphanResponse_spill {r : Response} (h15 : r.initiator = 15) (s : State) :
    s.orphanResponse r = ((s.raise .orphan).count .orphan).observe
      { kind := .orphan, access := some r.kind, initiator := some 15, tag := some r.tag,
        beats := some (if r.kind = .read then r.data.length else 0), status := some r.status } none := by
  unfold State.orphanResponse orphanBody
  rw [h15]

/-- Settles O49: by what the tag is. -/
theorem otherSpillAnswersAreAbsorbedOrOrphans : Obligations.OtherSpillAnswersAreAbsorbedOrOrphans := by
  intro s r hr h15 freed orphan
  refine ⟨fun u hu ht hs => ⟨fun hrole => ?_, fun np w hrole => ?_⟩, fun hl => ?_, fun hn => ?_⟩
  · refine exec_spillAnswer hr h15 ?_
    rw [State.spillResponse_stale (s := s.beginEvent) hu ht hs, hrole]
    rfl
  · intro t
    have acted : exec (.dPortResponse r) s = .next t.takeHead := by
      refine exec_spillAnswer hr h15 ?_
      rw [State.spillResponse_stale (s := s.beginEvent) hu ht hs, hrole, State.staleAnswered_publish]
      rfl
    have hstale : t.stalePublishInUse ↔ freed.stalePublishInUse :=
      State.stalePublishInUse_congr (State.afterStalePublish_tags freed np w r.status)
    have hengine : t.spill.engine = s.spill.engine := State.afterStalePublish_engine freed np w r.status
    have hstore : t.store = s.store := State.afterStalePublish_store freed np w r.status
    rw [acted]
    refine ⟨fun h => congrArg _ (State.takeHead_stays ?_), fun h rest hi hd hnone => congrArg _ ?_⟩
    · rwa [hengine, hstore, hstale]
    · exact State.takeHead_places (hstore ▸ hd) (hengine.trans hi) (hstale.not.2 hnone)
  · rw [exec_spillOrphan hr h15 (State.spillResponse_lost (s := s.beginEvent) hl _), State.orphanResponse_spill h15]
    rfl
  · rw [exec_spillOrphan hr h15 (State.spillResponse_unmatched (s := s.beginEvent) hn _),
      State.orphanResponse_spill h15]

end Sys2Proof.Machine
end

section
/-! SUPPORT. The time base: the phase of an aligned time against the grid, a pulse in its order with the two marks it
may make, and the commands of the port that change one register. -/

namespace Sys2Proof.Machine

-- One theorem at a time: each would otherwise hold a thread of its own.
set_option Elab.async false

/-! ## The phase (R139) -/

/-- The phase is the remainder of the time, or the remainder less a period where that is nearer. -/
theorem phaseOf_cases (t : Time) (p : Nat) :
    2 * (t.toNat % p) ≤ p ∧ phaseOf t p = (t.toNat : Int) % p ∨
      p < 2 * (t.toNat % p) ∧ phaseOf t p = (t.toNat : Int) % p - p := by
  unfold phaseOf
  dsimp only
  split
  · rename_i h
    exact .inl ⟨h, rfl⟩
  · rename_i h
    exact .inr ⟨Nat.lt_of_not_le h, rfl⟩

/-- The phase takes the time onto a multiple of the period. -/
theorem dvd_sub_phaseOf (t : Time) (p : Nat) : (p : Int) ∣ (t.toNat : Int) - phaseOf t p := by
  have hr : (p : Int) ∣ (t.toNat : Int) - (t.toNat : Int) % p := Int.dvd_self_sub_emod
  rcases phaseOf_cases t p with ⟨-, h⟩ | ⟨-, h⟩ <;> rw [h]
  · exact hr
  · rw [← sub_add]
    exact Int.dvd_add hr (Int.dvd_refl _)

/-- Settles O53: by which of the two nearest grid points the remainder names. -/
theorem phaseIsNearestGridDistance : Obligations.PhaseIsNearestGridDistance := by
  intro t p hp
  have hlt : t.toNat % p < p := Nat.mod_lt _ hp
  have hr : ((t.toNat % p : Nat) : Int) = (t.toNat : Int) % p := Int.natCast_mod _ _
  rcases phaseOf_cases t p with ⟨hle, h⟩ | ⟨hgt, h⟩
  · exact ⟨by omega, by omega, dvd_sub_phaseOf t p⟩
  · exact ⟨by omega, by omega, dvd_sub_phaseOf t p⟩

/-! ## Commands that change one register (R143, R146, R175, R178) -/

/-- A command that always gives DONE, in a frame the port takes. -/
theorem exec_doneFrame {s : State} {f : Frame} {need : Nat} (h : s.takesFrame f need) {c : Instr}
    {act : State → State} (hp : c ≠ .porRstn) (hr : c ≠ .resetEnd) (hc : ∀ t, Instr.effect c t = t.doneFrame f need act) :
    exec c s = .next ((act s.beginEvent).answer f [] .done) := by
  rw [exec_running h.1 hp hr, hc, State.doneFrame_taken h]

/-- A read of the low word of raw time sends the snapshot's: it has a value at every bit. -/
theorem State.readStatusWord_rawTime (s : State) :
    s.readStatusWord rawTimeIndex.toNat = some (s.clock.snapshot.raw.extractLsb' 0 32) := by
  have word : s.statusWord rawTimeIndex.toNat = some (timeLow s.clock.snapshot.raw) := rfl
  unfold State.readStatusWord
  rw [word]
  exact congrArg some (if_pos rfl)

/-- A read of the low word of raw time takes the snapshot and sends the word. -/
theorem State.statusFrame_rawTime {s : State} {f : Frame} (h : s.takesFrame f 7) :
    s.beginEvent.statusFrame f rawTimeIndex =
      (s.beginEvent.takeSnapshot.spendChoices 1).answer f (dataBytes (s.clock.raw.extractLsb' 0 32)) .done := by
  obtain ⟨-, hq, hb, h1, hn⟩ := h
  have h0 : f.bytes ≠ 0 := by omega
  have judged : s.beginEvent.judgesBusy f = false := Bool.or_eq_false_iff.2 ⟨hb, hq⟩
  have index : (indexComplete f && rawTimeIndex == rawTimeIndex) = true := by
    simp only [indexComplete, beq_self_eq_true, Bool.and_true, decide_eq_true_eq]
    omega
  have result : ∀ w : Word, readResult f (some w) = .done := fun w => if_neg (Nat.not_lt.2 hn)
  unfold State.statusFrame State.answerWord
  rw [if_neg h0, judged, Bool.false_and, if_neg Bool.false_ne_true, if_pos index]
  dsimp only
  rw [State.readStatusWord_rawTime, result]
  rfl

/-- Settles O35: each command is its register's update in a frame that gives DONE. -/
theorem registerCommandsAct : Obligations.RegisterCommandsAct := by
  refine fun s f m => ⟨fun h => ⟨?_, ?_⟩, fun h => ⟨?_, ?_⟩⟩
  · exact exec_doneFrame (act := State.armOnce) h (by simp) (by simp) fun _ => rfl
  · exact exec_doneFrame (act := State.clearCounters) h (by simp) (by simp) fun _ => rfl
  · exact exec_doneFrame (act := fun t => t.setAlertEnable m) h (by simp) (by simp) fun _ => rfl
  · exact (exec_running h.1 (by simp) (by simp)).trans (congrArg _ (State.statusFrame_rawTime h))

/-! ## A rise of SYNCIN (R138, log entry 9) -/

/-- The state with SYNCIN seen low for a tick. -/
def State.syncinSeenLow (s : State) : State := { s with clock := { s.clock with lineSeenLow := true } }

/-- A low tick before the rise and a high tick after it make a pulse. -/
theorem State.syncinRise_pulse (s : State) : s.syncinRise ⟨true, true⟩ = s.syncinSeenLow.pulse := by
  simp [State.syncinRise, riseSeen, riseIsFree, State.spendChoices, State.syncinSeenLow]

/-- The rise of a line not yet seen low for a tick is no pulse. -/
theorem State.syncinRise_neverLow {s : State} {l : LineRise} (hs : s.clock.lineSeenLow = false)
    (hl : l.lowTick = false) : s.syncinRise l = s := by
  have kept : ({ s.clock with lineSeenLow := false } : TimeBase) = s.clock := by rw [← hs]
  simp [State.syncinRise, riseSeen, riseIsFree, State.spendChoices, hs, hl, kept]

/-- Any other rise after a gap, or of a pulse, shorter than a tick spends a free choice, and that says whether it is a
pulse. -/
theorem State.syncinRise_short {s : State} {l : LineRise} (hshort : l.lowTick = false ∨ l.highTick = false)
    (hlow : s.clock.lineSeenLow = true ∨ l.lowTick = true) : s.syncinRise l =
      if Config.edgeSeen s.freeIndex = true then (s.spendChoices 1).syncinSeenLow.pulse
      else (s.spendChoices 1).syncinSeenLow := by
  have low : (s.clock.lineSeenLow || l.lowTick) = true := Bool.or_eq_true_iff.2 hlow
  have short : (l.lowTick && l.highTick) = false := Bool.and_eq_false_iff.2 hshort
  have never : (!s.clock.lineSeenLow && !l.lowTick) = false := by rw [← Bool.not_or, low]; rfl
  simp [State.syncinRise, riseSeen, riseIsFree, State.syncinSeenLow, low, short, never]

theorem exec_syncPulse {s : State} (h : s.running) (l : LineRise) :
    exec (.syncPulse l) s = .next (s.beginEvent.syncinRise l) :=
  exec_running h (by simp) (by simp)

theorem exec_syncPulse_pulse {s : State} (h : s.running) :
    exec (.syncPulse ⟨true, true⟩) s = .next s.beginEvent.syncinSeenLow.pulse :=
  (exec_syncPulse h _).trans (congrArg _ (State.syncinRise_pulse _))

/-! ## The end of a pulse (R143, R144) -/

/-- Whatever the marks of a pulse lead to, the loss watch is judged by the set the pulse met. -/
theorem State.endPulse_of_config {s v : State} (h : v.config = s.config) : v.endPulse =
    { v with clock := { v.clock with once := false, lossWatch := if s.syncWatched then .watching else .idle } } := by
  have hw : v.syncWatched = s.syncWatched := by
    unfold State.syncWatched
    rw [h]
  unfold State.endPulse
  rw [hw]

/-! ## The marks of a pulse (R140, R141) -/

/-- In OBSERVE mode a MARK is always observed: it has no address that SELF_QUIET could drop (R36). -/
theorem State.mark_observed {s : State} (h : s.config.active.mode? = some .observe) (c : MarkCause) :
    ¬s.makesNone { kind := .mark, cause := some c } := by
  rw [s.makesNone_iff]
  simp [State.observes, ObsBody.inQuietRegion, h]

/-- An observation that is made takes the next number and becomes the ring's newest, whatever else its path leads to. -/
theorem State.observe_enters {s : State} {b : ObsBody} (beat : Option Beat) (h : ¬s.makesNone b) :
    (s.observe b beat).observer.sequence = s.observer.sequence + 1 ∧
      (s.observe b beat).observer.ring.map RingEntry.obs =
        (s.observationOf b beat :: s.observer.ring.map RingEntry.obs).take Config.ringEntries := by
  rw [State.observe_path beat h]
  generalize s.observationOf b beat = o
  dsimp only
  generalize ((s.numbered o).offer o).claimed = claimed
  have ring : (((s.numbered o).offer o).state.enterRing o claimed).observer.ring.map RingEntry.obs =
      (o :: s.observer.ring.map RingEntry.obs).take Config.ringEntries := by
    simp [List.map_take]
  have sequence : (((s.numbered o).offer o).state.enterRing o claimed).observer.sequence = s.observer.sequence + 1 := by
    simp
  split
  · exact ⟨sequence, ring⟩
  · have evaluated := (((s.numbered o).offer o).state.enterRing o claimed).evaluateTrigger_sameRing o
    exact ⟨evaluated.sequence.trans sequence, evaluated.observations.trans ring⟩

/-- The two marks of one pulse are the newest observations, the slip's before the epoch's. -/
theorem State.slip_realign_marks {s : State} (h : s.config.active.mode? = some .observe) (d : Int) :
    ∃ x y rest, (s.slip.realign d).observer.ring = x :: y :: rest ∧
      x.obs = (s.slip.realigned d).observationOf { kind := .mark, cause := some .epoch } none ∧
      y.obs = ((s.raise .syncSlip).count .syncSlips).observationOf { kind := .mark, cause := some .slip } none ∧
      s.slip.observer.sequence = s.observer.sequence + 1 := by
  have slipMade : ¬((s.raise .syncSlip).count .syncSlips).makesNone { kind := .mark, cause := some .slip } :=
    State.mark_observed h _
  have epochMade : ¬(s.slip.realigned d).makesNone { kind := .mark, cause := some .epoch } :=
    State.mark_observed (by rw [← h, ← s.slip_keeps.config]; rfl) _
  obtain ⟨hseq, hslip⟩ := State.observe_enters none slipMade
  obtain ⟨-, hepoch⟩ := State.observe_enters none epochMade
  rw [show (s.slip.realigned d).observer.ring.map RingEntry.obs = _ from hslip] at hepoch
  obtain ⟨x, xs, hring, hx, hxs⟩ := List.map_eq_cons_iff.1 hepoch
  obtain ⟨y, rest, rfl, hy, -⟩ := List.map_eq_cons_iff.1 hxs
  exact ⟨x, y, rest, hring, hx, hy, hseq⟩

/-- Settles O52: a pulse is the model's own event, its end judged by the set it met; its two marks enter one after the
other, under the old and the new offset; and a rise is a pulse or it is not. -/
theorem syncPulseActs : Obligations.SyncPulseActs := by
  intro s h d watched slips moves t u v
  have hu : u.config = s.config := by
    show (if slips then t.slip else t).config = _
    split
    · exact t.slip_keeps.config
    · rfl
  have hv : v.config = s.config := by
    show (if moves then u.realign d else u).config = _
    split
    · exact (State.observe_keeps _ _ _).config.trans hu
    · exact hu
  refine ⟨?_, fun hm hs hr => ?_, fun l hshort => ⟨fun hlow hl => ?_, fun hlow => ?_⟩⟩
  · rw [exec_syncPulse_pulse h]
    exact congrArg _ (State.endPulse_of_config hv)
  · obtain ⟨x, y, rest, hring, hx, hy, hseq⟩ := State.slip_realign_marks (s := t) hm d
    have hv' : v = t.slip.realign d := (if_pos hr).trans (congrArg (State.realign · d) (if_pos hs))
    refine ⟨x, y, rest, hv' ▸ hring, ?_⟩
    rw [hx, hy]
    refine ⟨rfl, rfl, rfl, hseq, rfl, ?_⟩
    show t.slip.clock.raw + (t.slip.clock.offset - _) = _
    rw [t.slip_keeps.clock]
    rfl
  · rw [exec_syncPulse h, State.syncinRise_neverLow (s := s.beginEvent) hlow hl]
  · rw [exec_syncPulse h, State.syncinRise_short (s := s.beginEvent) hshort hlow]
    split
    · exact .inr (exec_syncPulse_pulse (s := { s with freeIndex := s.freeIndex + 1 }) h).symm
    · exact .inl rfl

end Sys2Proof.Machine
end

section
/-! SUPPORT. The configuration block's invariant: no event but WRITE_STAGED, APPLY, a due apply and the resets touches a set
or the pending state, and each of these keeps the sets checked. -/

namespace Sys2Proof.Machine

-- One theorem at a time: each would otherwise hold a thread of its own.
set_option Elab.async false

/-! ## What the invariant reads -/

/-- The invariant reads the two sets and the pending state alone. -/
theorem State.setsSound.same {s t : State} (h : s.setsSound) (ha : t.config.active = s.config.active := by rfl)
    (hg : t.config.staged = s.config.staged := by rfl)
    (hp : t.config.applyPending = s.config.applyPending := by rfl) : t.setsSound := by
  unfold State.setsSound
  rwa [ha, hg, hp]

/-- A set that is shaped and passes every check is sound in both places, an apply pending or not. -/
theorem State.setsSound_of_installed {s : State} (h : s.config.active.shaped) (hc : s.config.active.firstFailed = none)
    (hg : s.config.staged = s.config.active) : s.setsSound :=
  ⟨h, hg ▸ h, hc, fun _ => hg ▸ hc⟩

theorem State.setsSound.of_config {s t : State} (h : s.setsSound) (hc : t.config = s.config) : t.setsSound :=
  h.same (by rw [hc]) (by rw [hc]) (by rw [hc])

theorem State.observe_setsSound {s : State} (h : s.setsSound) (b : ObsBody) (d : Option Beat) :
    (s.observe b d).setsSound :=
  h.of_config (s.observe_keeps b d).config

/-! ## An apply (R151–R155) -/

/-- An apply puts STAGED in force, and nothing of its further effects touches a set. -/
theorem State.takeEffect_config (s : State) : s.takeEffect.config = s.installStaged.config := by
  have geometry : ∀ (t : State) (c : Bool), (if c then t.spillGeometryChanged else t).config = t.config := fun t c => by
    split
    · exact t.spillGeometryChanged_keeps.config
    · rfl
  have lossWatch : ∀ t : State, t.applyLossWatch.config = t.config := fun t => by
    unfold State.applyLossWatch
    split <;> rfl
  unfold State.takeEffect
  dsimp only
  rw [State.raise_config, (State.applyHold_keeps _).config, lossWatch, geometry, (State.applyTrigger_keeps _).config]

/-- A due apply is pending, so the set it puts in force has passed the checks. -/
theorem State.takeDueApply_setsSound {s : State} (h : s.setsSound) : s.takeDueApply.setsSound := by
  obtain ⟨-, hshape, -, hpassed⟩ := id h
  unfold State.takeDueApply
  split
  · rename_i hd
    have pending : s.config.applyPending = true := by
      simp only [State.applyDue, Bool.and_eq_true] at hd
      exact hd.1.1
    have installed : s.installStaged.setsSound := State.setsSound_of_installed hshape (hpassed pending) rfl
    exact installed.of_config s.takeEffect_config
  · exact h

/-- APPLY checks STAGED before it waits to take effect (R152). -/
theorem State.applyCommand_setsSound {s : State} (h : s.setsSound) : s.applyCommand.1.setsSound := by
  unfold State.applyCommand State.requestApply
  split
  · exact h
  · split
    · exact h.same
    · rename_i hpassed
      obtain ⟨hactive, hstaged, hchecked, -⟩ := h
      exact State.takeDueApply_setsSound (s := { s with config :=
        { s.config with refusalCause := none, applyPending := true } }) ⟨hactive, hstaged, hchecked, fun _ => hpassed⟩

/-- WRITE_STAGED writes no set that waits to take effect (R153). -/
theorem State.writeStagedWord_setsSound {s : State} (h : s.setsSound) (i : BitVec 16) (w : Word) :
    (s.writeStagedWord i w).1.setsSound := by
  unfold State.writeStagedWord
  split
  · exact h
  · rename_i p hw
    split
    · exact h
    · rename_i hp
      obtain ⟨hactive, hstaged, hchecked, -⟩ := h
      exact ⟨hactive, hstaged.writeWord _ _ p hw, hchecked, fun hpending => absurd hpending hp⟩

theorem State.observeAndOffer_setsSound {s : State} (h : s.setsSound) (b : ObsBody) (d : Option Beat)
    (o : Option Snoop) (i : Initiator) : (s.observeAndOffer b d o i).setsSound := by
  have offered : ∀ {t : State} (sn : Snoop), t.setsSound → (t.snoopOffer sn i).setsSound :=
    fun sn ht => ht.of_config (State.snoopOffer_keeps _ sn i).config
  have spent : (s.spendChoices 1).setsSound := h.same
  unfold State.observeAndOffer
  split
  · exact State.observe_setsSound h b d
  · dsimp only
    split
    · exact offered _ (State.takeDueApply_setsSound (State.observe_setsSound spent b d))
    · exact State.observe_setsSound (State.takeDueApply_setsSound (offered _ spent)) b d

/-! ## The transit unit's events -/

theorem State.release_setsSound {s : State} (h : s.setsSound) (k : Key) : (s.release k).setsSound := h.same

theorem State.presentRequest_setsSound {s : State} (h : s.setsSound) (r : Request) : (s.presentRequest r).setsSound := by
  unfold State.presentRequest
  split
  · exact h
  · dsimp only
    split <;> exact h.of_config (State.followHold_keeps _).config

theorem State.takePresented_setsSound {s : State} (h : s.setsSound) : s.takePresented.setsSound := by
  unfold State.takePresented State.takeRequest
  split
  · refine State.whenDue_kept (fun _ => ?_) h
    split
    · exact State.release_setsSound (State.observe_setsSound h.same _ _) _
    · exact h.same
  · exact h

theorem State.orphanResponse_setsSound {s : State} (h : s.setsSound) (r : Response) : (s.orphanResponse r).setsSound :=
  h.of_config (s.orphanResponse_keeps r).config

theorem State.memoryResponse_setsSound {s : State} (h : s.setsSound) (r : Response) :
    (s.memoryResponse r).setsSound := by
  unfold State.memoryResponse
  dsimp only
  split
  · exact State.orphanResponse_setsSound h.same r
  · split
    · exact State.orphanResponse_setsSound h r
    · split
      · exact State.release_setsSound (State.observe_setsSound h.same _ _) _
      · exact State.release_setsSound (State.observeAndOffer_setsSound h.same _ _ _ _) _

theorem State.takeResponse_setsSound {s : State} (h : s.setsSound) (r : Response) : (s.takeResponse r).setsSound := by
  have answered := h.of_config (s.spillResponse_keeps r.tag r.status).config
  unfold State.takeResponse
  split
  · dsimp only
    split
    · exact answered
    · exact State.orphanResponse_setsSound answered r
  · exact State.memoryResponse_setsSound h r

theorem State.expireEntry_setsSound {s : State} (h : s.setsSound) (e : Entry) : (s.expireEntry e).setsSound := by
  unfold State.expireEntry
  split
  · exact State.observe_setsSound h.same _ _
  · split
    · exact State.release_setsSound (State.observe_setsSound h.same _ _) _
    · exact State.release_setsSound (State.observe_setsSound h.same _ _) _
  · exact h

theorem State.expireAt_setsSound {s : State} (h : s.setsSound) (k : Key) (age : Nat) : (s.expireAt k age).setsSound := by
  unfold State.expireAt
  split
  · exact State.whenDue_kept (fun _ => State.expireEntry_setsSound h _) h
  · exact h

/-! ## Resets, edges and the time base -/

theorem State.fullResetEffect_setsSound (s : State) (abandoned : Bool) : (s.fullResetEffect abandoned).setsSound := by
  rw [State.fullResetEffect_eq]
  exact reset_setsSound.same

/-- A FULL_RESET cancels a pending apply (R156). -/
theorem State.startQuiesce_setsSound {s : State} (h : s.setsSound) : s.startQuiesce.setsSound := by
  obtain ⟨hactive, hstaged, hchecked, -⟩ := h
  unfold State.startQuiesce
  dsimp only
  split
  · exact State.fullResetEffect_setsSound _ _
  · exact ⟨hactive, hstaged, hchecked, fun hp => by cases hp⟩

theorem State.pulse_setsSound {s : State} (h : s.setsSound) : s.pulse.setsSound := by
  have slips : ∀ {t : State} (c : Bool), t.setsSound → (if c then t.slip else t).setsSound := fun {t} c ht => by
    split
    · exact ht.of_config t.slip_keeps.config
    · exact ht
  have realigns : ∀ {t : State} (c : Bool) (d : Int), t.setsSound → (if c then t.realign d else t).setsSound :=
    fun {t} c d ht => by
      split
      · exact State.observe_setsSound (ht.same (t := t.realigned d)) _ _
      · exact ht
  have recorded : ∀ d, (s.recordPulse d).setsSound := fun _ => h.same
  exact (realigns _ _ (slips _ (recorded _))).same

theorem State.syncinRise_setsSound {s : State} (h : s.setsSound) (l : LineRise) : (s.syncinRise l).setsSound := by
  unfold State.syncinRise
  dsimp only
  split
  · exact State.pulse_setsSound h.same
  · exact h.same

/-! ## Every event -/

theorem State.frame_setsSound {s : State} (hs : s.setsSound) (f : Frame) (need : Nat) {act : State → State × Result}
    (hact : (act s).1.setsSound) : (s.frame f need act).setsSound :=
  State.frame_kept f need (fun h => h.same) (fun _ h _ => h.same) (fun _ => hact) hs

theorem State.doneFrame_setsSound {s : State} (hs : s.setsSound) (f : Frame) (need : Nat) {act : State → State}
    (hact : (act s).setsSound) : (s.doneFrame f need act).setsSound :=
  State.frame_setsSound hs f need hact

theorem Instr.effect_setsSound (c : Instr) (s : State) (hs : s.setsSound) : (Instr.effect c s).setsSound := by
  cases c with
  | requestPresented r => exact State.presentRequest_setsSound hs r
  | take => exact State.takePresented_setsSound hs
  | holdExpiry => exact State.whenDue_kept (fun _ => hs.same) hs
  | grant => exact s.arbitrate_storesNoMore.setsSound hs
  | dPortTake => exact s.takeDownstream_storesNoMore.setsSound hs
  | dPortResponse r => exact State.takeResponse_setsSound hs r
  | overdueExpiry i t a => exact State.expireAt_setsSound hs ⟨i, t⟩ a
  | fullReset f => exact State.doneFrame_setsSound hs f _ (State.startQuiesce_setsSound hs)
  | quiesceComplete => exact State.whenDue_kept (fun _ => State.fullResetEffect_setsSound _ _) (s := s) hs
  | quiesceAbandon => exact State.whenDue_kept (fun _ => State.fullResetEffect_setsSound _ _) (s := s) hs
  | porRstn => exact hs
  | stageTimeout => exact State.whenDue_kept (fun _ => hs.same) hs
  | triginEdge l => exact hs.of_config (s.triginRise_keeps l).config
  | trigoutPulseEnd => exact State.whenDue_kept (fun _ => hs.same) hs
  | readActive f i => exact (s.readFrame_storesNoMore f _).setsSound hs
  | readStaged f i => exact (s.readFrame_storesNoMore f _).setsSound hs
  | writeStaged f i w => exact State.frame_setsSound hs f _ (State.writeStagedWord_setsSound hs i w)
  | readStatus f i => exact (s.statusFrame_storesNoMore f i).setsSound hs
  | rawTimeSnapshot f => exact (s.statusFrame_storesNoMore f _).setsSound hs
  | apply f => exact State.frame_setsSound hs f _ (State.applyCommand_setsSound hs)
  | applyTakesEffect => exact State.takeDueApply_setsSound hs
  | arm f => exact State.frame_setsSound hs f _ (hs.of_config s.armUnit_keeps.config)
  | disarm f => exact State.doneFrame_setsSound hs f _ (hs.of_config s.disarmUnit_keeps.config)
  | force f => exact State.frame_setsSound hs f _ (hs.of_config (s.forceUnit_keeps _).config)
  | alignOnce f => exact State.doneFrame_setsSound hs f _ hs.same
  | clearCounters f => exact State.doneFrame_setsSound hs f _ hs.same
  | ackConditions f m => exact State.doneFrame_setsSound hs f _ hs.same
  | writeAlertEnable f m => exact State.doneFrame_setsSound hs f _ hs.same
  | readRecord f o k => exact (s.recordFrame_storesNoMore f o k).setsSound hs
  | discardHead f => exact State.frame_setsSound hs f _ (hs.of_config s.discardHead_keeps.config)
  | spillResume f => exact State.frame_setsSound hs f _ (hs.of_config s.spillResume_keeps.config)
  | spillSkip f => exact State.frame_setsSound hs f _ (hs.of_config s.spillSkip_keeps.config)
  | captureReset f => exact State.doneFrame_setsSound hs f _ (hs.of_config s.captureReset_keeps.config)
  | syncPulse l => exact State.syncinRise_setsSound hs l
  | lossWatchExpiry => exact State.whenDue_kept (fun _ => State.observe_setsSound hs.same _ _) hs
  | unknownCommandByte f b => exact State.frame_setsSound hs f _ hs
  | resetEnd => exact hs

theorem setsSound_keptByDueEvents : KeptByDueEvents State.setsSound where
  bookkeeping _ _ _ h := h.same
  beginEvent _ h := h.same
  takeDueApply _ h := State.takeDueApply_setsSound h
  tick _ h := h.same
  powerOn _ _ := reset_setsSound.same
  endReset _ h := h.same
  effect := Instr.effect_setsSound

/-- Settles O56: a set reaches ACTIVE by a reset or by an apply, and an apply waits only with a set that passed. -/
theorem activeSetStaysChecked : Obligations.ActiveSetStaysChecked := fun _ _ hs ht =>
  setsSound_keptByDueEvents.step hs ht

end Sys2Proof.Machine
end

section
/-! SUPPORT. An apply: what stands against it, what APPLY answers, what a due apply changes block by block, and that one is taken
before any other event; and what CAPTURE_RESET leaves. -/

namespace Sys2Proof.Machine

-- One theorem at a time: each would otherwise hold a thread of its own.
set_option Elab.async false

/-! ## Events and frames that find nothing to send -/

/-- With nothing on the response channel, a new event changes nothing. -/
theorem State.beginEvent_quiet {s : State} (h : s.outputs.upstream = []) : s.beginEvent = s := by
  unfold State.beginEvent
  rw [← h]

/-- With nothing on the response channel, a frame's answer is the state after a frame that did nothing else. -/
theorem State.answer_quiet {s : State} (h : s.outputs.upstream = []) (f : Frame) (data : List Byte) (r : Result) :
    s.answer f data r = s.replied f data r := by
  rw [← s.answer_beginEvent, s.beginEvent_quiet h]

/-- A command in a frame the port takes. -/
theorem exec_frame {s : State} {f : Frame} {need : Nat} (h : s.takesFrame f need) {c : Instr}
    {act : State → State × Result} (hp : c ≠ .porRstn) (hr : c ≠ .resetEnd) (hc : ∀ t, Instr.effect c t = t.frame f need act) :
    exec c s = .next ((act s.beginEvent).1.answer f [] (act s.beginEvent).2) := by
  rw [exec_running h.1 hp hr, hc, State.frame_taken h]

/-! ## What stands against an apply (R154) -/

theorem ParamSet.geometryDiffers_iff (p q : ParamSet) : p.geometryDiffers q = true ↔
    p.drainRoute ≠ q.drainRoute ∨ p.spillBase ≠ q.spillBase ∨ p.spillSize ≠ q.spillSize := by
  simp [ParamSet.geometryDiffers, or_assoc]

theorem State.applyWaitsOnSpill_iff (s : State) : s.applyWaitsOnSpill = true ↔
    (s.spill.engine = .writing ∨ s.spill.engine = .publish ∨ s.spill.engine = .init) ∧
      (s.config.staged.drainRoute ≠ s.config.active.drainRoute ∨
        s.config.staged.spillBase ≠ s.config.active.spillBase ∨
        s.config.staged.spillSize ≠ s.config.active.spillSize) := by
  rw [State.applyWaitsOnSpill, Bool.and_eq_true, ParamSet.geometryDiffers_iff, and_comm]
  simp [or_assoc]

theorem State.capturing_iff (s : State) : s.capturing = true ↔ s.trigger.state = .capturing := by
  simp [State.capturing]

theorem State.applyDue_iff (s : State) : s.applyDue = true ↔
    s.config.applyPending = true ∧ s.capturing = false ∧ s.applyWaitsOnSpill = false := by
  simp [State.applyDue, and_assoc]

/-- Once a due apply is taken, none is pending. -/
theorem State.takeDueApply_applyDue (s : State) : s.takeDueApply.applyDue = false := by
  unfold State.takeDueApply
  split
  · unfold State.applyDue
    rw [s.takeEffect_config]
    rfl
  · simpa using ‹¬s.applyDue = true›

/-- APPLY_TAKES_EFFECT is the taking of a due apply at the start of its event. -/
theorem exec_applyTakesEffect {s : State} (h : s.held = false) :
    exec .applyTakesEffect s = .next s.beginEvent.takeDueApply := by
  rw [exec_eq_effect h (by simp) (by simp), Instr.effect, State.takeDueApply_of_not_due (State.takeDueApply_applyDue _)]

/-- Settles O5: a command meets the state that APPLY_TAKES_EFFECT leaves, where no apply is due. -/
theorem dueApplyComesFirst : Obligations.DueApplyComesFirst := by
  intro c s t hheld _ hp hr ht
  obtain rfl : s.beginEvent.takeDueApply = t := Host.Outcome.next.inj ((exec_applyTakesEffect hheld).symm.trans ht)
  have kept := s.beginEvent.takeDueApply_keeps
  have quiet : s.beginEvent.takeDueApply.beginEvent = s.beginEvent.takeDueApply :=
    State.beginEvent_quiet (by rw [kept.outputs, State.beginEvent_upstream])
  refine ⟨State.takeDueApply_applyDue _, ?_⟩
  rw [exec_eq_effect hheld hp hr, exec_running ⟨kept.held.trans hheld, State.takeDueApply_applyDue _⟩ hp hr, quiet]

/-! ## APPLY (R152–R154) -/

theorem exec_apply {s : State} {f : Frame} (h : s.takesFrame f 1) : exec (.apply f) s =
    .next (s.beginEvent.applyCommand.1.answer f [] s.beginEvent.applyCommand.2) :=
  exec_frame h (by simp) (by simp) fun _ => rfl

theorem State.applyCommand_pending {s : State} (h : s.config.applyPending = true) : s.applyCommand = (s, .done) :=
  if_pos h

theorem State.applyCommand_refused {s : State} {n : Nat} (h : s.config.applyPending = false)
    (hn : s.config.staged.firstFailed = some n) :
    s.applyCommand = ({ s with config := { s.config with refusalCause := some n } }, .refused) := by
  simp [State.applyCommand, State.requestApply, h, hn]

/-- The state in which an APPLY that passed the checks waits to take effect. -/
def State.applyWaiting (s : State) : State :=
  { s with config := { s.config with refusalCause := none, applyPending := true } }

theorem State.applyCommand_passed {s : State} (h : s.config.applyPending = false)
    (hn : s.config.staged.firstFailed = none) : s.applyCommand = (s.applyWaiting.takeDueApply, .done) := by
  unfold State.applyCommand State.requestApply
  rw [h, hn]
  rfl

/-- An APPLY just accepted is due where the unit is not CAPTURING and the engine need not be waited for. -/
theorem State.applyWaiting_due (s : State) :
    s.applyWaiting.applyDue = true ↔ s.capturing = false ∧ s.applyWaitsOnSpill = false :=
  (State.applyDue_iff _).trans (and_iff_right rfl)

/-- Settles O32: APPLY by whether one is pending, by the first failed check, and by what stands against it. -/
theorem applyIsChecked : Obligations.ApplyIsChecked := by
  refine ⟨State.applyWaitsOnSpill_iff, fun s => ⟨s.capturing_iff, s.applyDue_iff⟩, fun s f h => ?_⟩
  rw [exec_apply h]
  refine ⟨fun n hp hn => ?_, fun hp hn hw => ?_, fun t hp hn hc hw ht => ?_, fun hp => ?_⟩
  · rw [State.applyCommand_refused (s := s.beginEvent) hp hn]
    rfl
  · have waits : s.beginEvent.applyWaiting.applyDue = false := by
      rw [← Bool.not_eq_true, State.applyWaiting_due]
      rintro ⟨hc, hs⟩
      rcases hw with hw | hw
      · exact Bool.false_ne_true (hc.symm.trans hw)
      · exact Bool.false_ne_true (hs.symm.trans hw)
    rw [State.applyCommand_passed (s := s.beginEvent) hp hn, State.takeDueApply_of_not_due waits]
    rfl
  · have taken : s.beginEvent.applyWaiting.takeDueApply = t :=
      Host.Outcome.next.inj ((exec_applyTakesEffect (s := s.applyWaiting) h.1.1).symm.trans ht)
    have quiet : t.outputs.upstream = [] := by
      rw [← taken, (State.takeDueApply_keeps _).outputs]
      rfl
    rw [State.applyCommand_passed (s := s.beginEvent) hp hn, taken, State.answer_quiet quiet]
  · rw [State.applyCommand_pending (s := s.beginEvent) hp]
    rfl

/-! ## A due apply takes effect (R83, R128–R131, R144, R155) -/

theorem State.applyTrigger_eq (s : State) : s.applyTrigger = s.setTrigger (match s.trigger.state with
    | .armed _ => if s.config.active.mode? = some .observe then stageZero else .disarmed
    | .disarmed => .disarmed
    | .capturing => .capturing) := by
  have stays : ∀ {u : TriggerState}, s.trigger.state = u → s = s.setTrigger u := fun h => h ▸ rfl
  unfold State.applyTrigger
  cases ht : s.trigger.state with
  | armed a => exact (apply_ite s.setTrigger _ _ _).symm
  | disarmed => exact stays ht
  | capturing => exact stays ht

theorem State.applyLossWatch_eq (s : State) : s.applyLossWatch = { s with clock := { s.clock with
    lossWatch := if s.config.active.syncMode? = some .off then .idle else s.clock.lossWatch } } := by
  unfold State.applyLossWatch
  split <;> rfl

theorem TagState.dropPublish_eq : TagState.dropPublish = fun g => match g with
    | .inUse u => .inUse (if u.stale then { u with role := .body } else u)
    | .lost => .lost
    | .free => .free := by
  funext g
  cases g with
  | inUse u => exact (apply_ite TagState.inUse _ _ _).symm
  | lost => rfl
  | free => rfl

/-- The engine once an apply has changed the route, the base or the size: INIT on the new ring, or OFF (R129). -/
def SpillEngine.renewed (e : SpillEngine) (p : ParamSet) : SpillEngine :=
  if p.drainRoute? = some .spill ∧ p.ringValid = true then
    { e with engine := .init, producer := 0, wrapCount := 0, consumer := 0, attempt := some (initAttempt p),
             tags := e.tags.map TagState.dropPublish }
  else { e with engine := .off, attempt := none }

theorem State.spillGeometryChanged_eq (s : State) :
    s.spillGeometryChanged = { s with spill := s.spill.renewed s.config.active } := by
  unfold State.spillGeometryChanged SpillEngine.renewed
  split <;> rfl

/-- An episode that still lasts once hold has followed the new set expires at the new limit (R27). -/
theorem State.applyHold_eq (s : State) : s.applyHold = match s.followHold.transit.holdTimer with
    | some n => if s.config.active.holdLimit.toNat ≤ n then s.followHold.expireHold else s.followHold
    | none => s.followHold := by
  unfold State.applyHold State.holdLimitReached
  dsimp only
  rw [s.followHold_keeps.config]
  cases s.followHold.transit.holdTimer <;> simp

/-- Every block once the apply is in force, before hold follows. -/
def State.applied (s : State) : State :=
  let p := s.config.staged
  { s with
    config := { s.config with active := p, generation := s.config.generation + 1, applyPending := false }
    observer := { s.observer with ring := s.observer.ring.map fun e => { e with claimed := true } }
    trigger := { s.trigger with state := match s.trigger.state with
      | .armed _ => if p.mode? = some .observe then stageZero else .disarmed
      | .disarmed => .disarmed
      | .capturing => .capturing }
    spill := if p.geometryDiffers s.config.active then s.spill.renewed p else s.spill
    clock := { s.clock with lossWatch := if p.syncMode? = some .off then .idle else s.clock.lossWatch } }

theorem State.takeEffect_eq (s : State) : s.takeEffect = s.applied.applyHold.raise .applyDone := by
  have geometry : ∀ (t : State) (c : Bool), (if c then t.spillGeometryChanged else t) =
      { t with spill := if c then t.spill.renewed t.config.active else t.spill } := fun t c => by
    rw [State.spillGeometryChanged_eq]
    cases c <;> rfl
  unfold State.takeEffect
  dsimp only
  rw [State.applyTrigger_eq, geometry, State.applyLossWatch_eq]
  rfl

/-- Where route, base and size agree the engine stays, and else it is renewed (R129). -/
theorem renewed_ite (e : SpillEngine) (p q : ParamSet) : (if p.geometryDiffers q then e.renewed p else e) =
    if p.drainRoute = q.drainRoute ∧ p.spillBase = q.spillBase ∧ p.spillSize = q.spillSize then e else e.renewed p := by
  rw [← ite_not]
  simp only [ParamSet.geometryDiffers_iff, not_or, not_not]

/-- Settles O34: the blocks of a due apply one by one, and then hold. -/
theorem applyTakesEffectWhole : Obligations.ApplyTakesEffectWhole := by
  intro s hheld hp hc hw p t u
  have blocks : s.applied.followHold = t := by
    unfold State.applied
    dsimp only
    rw [renewed_ite, SpillEngine.renewed, TagState.dropPublish_eq]
    rfl
  refine ⟨exec_applyTakesEffect hheld, ?_⟩
  rw [State.takeDueApply, if_pos (s.applyDue_iff.2 ⟨hp, hc, hw⟩), State.takeEffect_eq, State.applyHold_eq, blocks]
  rfl

/-! ## CAPTURE_RESET (R131, R164) -/

/-- At the engine CAPTURE_RESET ends every attempt but INIT (R131). -/
theorem State.spillCaptureReset_eq (s : State) : s.spillCaptureReset =
    if s.spill.engine = .off ∨ s.spill.engine = .init ∨ s.spill.engine = .fault .initFault then s
    else s.endAttempt .idle := by
  unfold State.spillCaptureReset
  split <;> simp [*]

/-- An emptied store has room, so HOLD ends and with it the hold-expired state (R26, R27). -/
theorem State.followHold_empty {s : State} (h : s.store.directory = []) (hr : s.store.reservation = 0) : s.followHold =
    { s with transit := { s.transit with holdTimer := none, holdExpired := false } } := by
  have low := State.storeLow_empty h hr
  rw [State.followHold_released (by simp [State.holdInForce, low]), low, Bool.and_false]

/-- Settles O24: the engine's part by its state, and hold by the store that is empty. -/
theorem captureResetEmptiesCapture : Obligations.CaptureResetEmptiesCapture := by
  intro s f h
  rw [exec_doneFrame (act := State.captureReset) h (by simp) (by simp) fun _ => rfl, State.captureReset_eq,
    State.spillCaptureReset_eq]
  change Host.Outcome.next ((if s.spill.engine = .off ∨ s.spill.engine = .init ∨ s.spill.engine = .fault .initFault then _
    else _ : State).followHold.answer f [] .done) = _
  split
  · rw [State.followHold_empty rfl rfl]
    rfl
  · rw [State.followHold_empty rfl rfl, State.endAttempt, TagState.toStale_eq]
    rfl

end Sys2Proof.Machine
end

section
/-! SUPPORT. The ten checks of R152, each in plain terms, and that the first one that fails is the one named. -/

namespace Sys2Proof.Machine

-- One theorem at a time: each would otherwise hold a thread of its own.
set_option Elab.async false

/-! ## The first that fails -/

/-- In a list of tests numbered from `lo`, of conditions that hold below and above those numbers, none fails exactly where
every condition holds, and the first that fails has the lowest number whose condition does not. -/
theorem find_failed_iff {C : Nat → Prop} : ∀ {l : List (Nat × Bool)} {lo : Nat},
    l.map (·.1) = List.range' lo l.length → (∀ c ∈ l, (c.2 = true ↔ C c.1)) → (∀ n < lo, C n) →
    (∀ n, lo + l.length ≤ n → C n) →
    ((l.find? fun c => !c.2).map (·.1) = none ↔ ∀ n, C n) ∧
      ∀ n, (l.find? fun c => !c.2).map (·.1) = some n ↔ ¬C n ∧ ∀ m < n, C m
  | [], lo, _, _, below, above => by
    have all : ∀ n, C n := fun n => (Nat.lt_or_ge n lo).elim (below n) (above n)
    simp [all]
  | (k, b) :: l, lo, numbers, tests, below, above => by
    rw [List.length_cons, List.range'_succ, List.map_cons, List.cons.injEq] at numbers
    obtain ⟨rfl : k = lo, numbers⟩ := numbers
    have test : b = true ↔ C k := tests (k, b) (by simp)
    cases b with
    | false =>
      have fails : ¬C k := fun h => Bool.false_ne_true (test.2 h)
      simp only [List.find?_cons, Bool.not_false, Option.map_some, Option.some.injEq, reduceCtorEq, false_iff]
      refine ⟨fun h => fails (h k), fun n => ⟨fun h => h ▸ ⟨fails, below⟩, fun ⟨hn, hm⟩ => ?_⟩⟩
      rcases Nat.lt_trichotomy k n with h | h | h
      · exact absurd (hm k h) fails
      · exact h
      · exact absurd (below n h) hn
    | true =>
      have holds : C k := test.1 rfl
      rw [List.find?_cons_of_neg (by simp)]
      refine find_failed_iff numbers (fun c hc => tests c (List.mem_cons_of_mem _ hc)) (fun n hn => ?_)
        fun n hn => above n (by rw [List.length_cons]; omega)
      rcases Nat.lt_succ_iff_lt_or_eq.1 hn with h | rfl
      · exact below n h
      · exact holds

/-! ## The checks one by one (R152) -/

theorem ParamSet.countsFit_iff (p : ParamSet) : p.countsFit = true ↔
    1 ≤ p.maxObs.toNat ∧ p.maxObs.toNat ≤ 1024 ∧ p.preCount.toNat + p.postCount.toNat + 1 ≤ p.maxObs.toNat := by
  simp [ParamSet.countsFit, and_assoc]

theorem WatchEntry.rangeOrdered_iff (e : WatchEntry) :
    e.rangeOrdered = true ↔ (e.hasRange = true → e.low.toNat ≤ e.high.toNat) := by
  unfold WatchEntry.rangeOrdered
  cases e.hasRange <;> simp

theorem StageDef.hitsFit_iff (d : StageDef) : d.hitsFit = true ↔ (d.condition? = some .hits →
    1 ≤ d.count.toNat ∧ d.count.toNat ≤ 64 ∧ d.window.toNat ≤ 64 ∧
      (0 < d.window.toNat → d.count.toNat ≤ d.window.toNat)) := by
  simp only [StageDef.hitsFit, Bool.or_eq_true, bne_iff_ne, ne_eq, Bool.and_eq_true, decide_eq_true_eq, beq_iff_eq,
    and_assoc,
    Nat.pos_iff_ne_zero, or_iff_not_imp_left, not_not]

theorem sizeInRange_iff (size : Nat) : sizeInRange size = true ↔ ∃ k, 14 ≤ k ∧ k ≤ 30 ∧ size = 2 ^ k := by
  simp only [sizeInRange, List.any_eq_true, List.mem_range, beq_iff_eq]
  constructor
  · rintro ⟨k, hk, rfl⟩
    exact ⟨14 + k, by omega, by omega, rfl⟩
  · rintro ⟨k, hlo, hhi, rfl⟩
    exact ⟨k - 14, by omega, by rw [Nat.add_sub_cancel' hlo]⟩

theorem ParamSet.ringValid_iff (p : ParamSet) : p.ringValid = true ↔
    (∃ k, 14 ≤ k ∧ k ≤ 30 ∧ p.spillSize.toNat = 2 ^ k) ∧ 4096 ∣ p.spillBase.toNat ∧
      p.spillBase.toNat + p.spillSize.toNat ≤ 2 ^ 40 := by
  simp only [ParamSet.ringValid, ringFits, Bool.and_eq_true, decide_eq_true_eq, beq_iff_eq, sizeInRange_iff, and_assoc,
    Nat.dvd_iff_mod_eq_zero]

/-- A size of 0 is the word 0. -/
theorem ParamSet.spillSize_zero_iff (p : ParamSet) : p.spillSize.toNat = 0 ↔ p.spillSize = 0 := by
  rw [← BitVec.toNat_inj]
  rfl

/-- A page is clear of a ring exactly where it ends before the ring or begins after it. -/
theorem page_clear_iff {page base size : Nat} (hs : size ≠ 0) : (page + 64 ≤ base ∨ base + size ≤ page) ↔
    ∀ a, page ≤ a → a < page + 64 → ¬(base ≤ a ∧ a < base + size) := by
  constructor
  · intro h a h1 h2
    omega
  · intro h
    have := h (max page base)
    omega

theorem ParamSet.pageFits_iff (p : ParamSet) : p.pageFits = true ↔ (p.pageEnable = true →
    64 ∣ p.pageBase.toNat ∧ p.pageBase.toNat + 64 ≤ 2 ^ 40 ∧
      (p.spillSize = 0 ∨ ∀ a, p.pageBase.toNat ≤ a → a < p.pageBase.toNat + 64 →
        ¬(p.spillBase.toNat ≤ a ∧ a < p.spillBase.toNat + p.spillSize.toNat))) := by
  have clear : (p.spillSize.toNat = 0 ∨ p.pageBase.toNat + 64 ≤ p.spillBase.toNat ∨
      p.spillBase.toNat + p.spillSize.toNat ≤ p.pageBase.toNat) ↔
      (p.spillSize = 0 ∨ ∀ a, p.pageBase.toNat ≤ a → a < p.pageBase.toNat + 64 →
        ¬(p.spillBase.toNat ≤ a ∧ a < p.spillBase.toNat + p.spillSize.toNat)) := by
    rw [p.spillSize_zero_iff]
    by_cases hs : p.spillSize = 0
    · simp [hs]
    · simp only [hs, false_or]
      exact page_clear_iff (mt p.spillSize_zero_iff.1 hs)
  rw [← clear]
  unfold ParamSet.pageFits
  cases p.pageEnable <;> simp [Nat.dvd_iff_mod_eq_zero, and_assoc, or_assoc]

/-- A code stands for a value exactly where it is below their number. -/
theorem codeIn_isSome {α : Type} (values : List α) (code : BitVec 2) :
    (codeIn values code).isSome = decide (code.toNat < values.length) := by
  rw [Bool.eq_iff_iff, codeIn]
  simp

theorem ParamSet.codesAssigned_iff (p : ParamSet) : p.codesAssigned = true ↔
    p.mode.toNat < 2 ∧ p.overdueAction.toNat < 2 ∧ p.capturePolicy.toNat < 2 ∧ p.triginMode.toNat < 3 ∧
      p.repeatMode.toNat < 2 ∧ p.retriggerMode.toNat < 2 ∧ p.drainRoute.toNat < 2 ∧ p.syncMode.toNat < 3 ∧
      (∀ e ∈ p.watch, e.statusFilter.toNat < 3) ∧ ∀ d ∈ p.stages, d.condition.toNat < 3 ∧ d.action.toNat < 2 := by
  simp [ParamSet.codesAssigned, ParamSet.mode?, ParamSet.overdueAction?, ParamSet.capturePolicy?, ParamSet.triginMode?,
    ParamSet.repeatMode?, ParamSet.retriggerMode?, ParamSet.drainRoute?, ParamSet.syncMode?, WatchEntry.statusFilter?,
    StageDef.condition?, StageDef.action?, codeIn_isSome, and_assoc]

/-- Settles O33: each check in plain terms, and the first that fails by its number. -/
theorem setPassesEveryCheck : Obligations.SetPassesEveryCheck := by
  intro p ring check
  have watch : p.watch.all WatchEntry.rangeOrdered = true ↔ check 2 :=
    List.all_eq_true.trans (forall₂_congr fun e _ => e.rangeOrdered_iff)
  have stages : p.stages.all StageDef.hitsFit = true ↔ check 3 :=
    List.all_eq_true.trans (forall₂_congr fun d _ => d.hitsFit_iff)
  have size : (p.spillSize.toNat == 0 || p.ringValid) = true ↔ check 5 := by
    rw [Bool.or_eq_true, beq_iff_eq, p.spillSize_zero_iff, p.ringValid_iff]
    exact .rfl
  have tests : ∀ c ∈ p.checks, (c.2 = true ↔ check c.1) := by
    simp only [ParamSet.checks, List.forall_mem_cons, List.not_mem_nil, false_imp_iff, implies_true, and_true]
    refine ⟨p.countsFit_iff, watch, stages, beq_iff_eq, size, p.pageFits_iff, ?_, ?_, ?_, p.codesAssigned_iff⟩ <;>
      simp [check, and_assoc]
  obtain ⟨passes, fails⟩ := find_failed_iff (C := check) (l := p.checks) (lo := 1) rfl tests
    (fun n hn => by obtain rfl : n = 0 := by omega
                    trivial)
    (fun n hn => by obtain ⟨m, rfl⟩ := Nat.exists_eq_add_of_le' hn
                    trivial)
  exact ⟨passes, fails, p.ringValid_iff⟩

end Sys2Proof.Machine
end

section
/-! SUPPORT. The frames of the management port: which form each command's frame has, what a short, a busy and an empty frame do,
what the commands of a configuration word answer, and that a frame's bytes read back as its command. -/

namespace Sys2Proof.Machine

-- One theorem at a time: each would otherwise hold a thread of its own.
set_option Elab.async false

/-! ## The word commands of a set (R151, R153, R160) -/

theorem State.readFrame_eq {s : State} {f : Frame} (h1 : 1 ≤ f.bytes) (hb : s.judgesBusy f = false) (w : Option Word) :
    s.readFrame f w = s.answerWord f w := by
  have h0 : f.bytes ≠ 0 := by omega
  simp [State.readFrame, h0, hb]

/-- A frame that the port takes is not BUSY. -/
theorem State.judgesBusy_taken {s : State} {f : Frame} {need : Nat} (h : s.takesFrame f need) :
    s.beginEvent.judgesBusy f = false := by
  obtain ⟨-, hq, hb, -⟩ := h
  exact Bool.or_eq_false_iff.2 ⟨hb, hq⟩

/-- A long enough read sends the word its index names, or zero bytes and BAD_INDEX. -/
theorem State.readFrame_taken {s : State} {f : Frame} (h : s.takesFrame f 7) (w : Option Word) :
    s.beginEvent.readFrame f w =
      s.replied f (dataBytes (w.getD 0)) (if w.isSome then .done else .badIndex) := by
  have busy := State.judgesBusy_taken h
  obtain ⟨-, -, -, h1, hn⟩ := h
  rw [State.readFrame_eq h1 busy, State.answerWord, readResult, if_neg (show ¬f.bytes < wordFrameBytes from Nat.not_lt.2 hn),
    State.answer_beginEvent]

theorem dataBytes_zero : dataBytes 0 = [0, 0, 0, 0] := by decide

/-- A command that reads a word, in a frame the port takes. -/
theorem exec_readFrame {s : State} {f : Frame} (h : s.takesFrame f 7) {c : Instr} {w : State → Option Word}
    (hp : c ≠ .porRstn) (hr : c ≠ .resetEnd) (hc : ∀ t, Instr.effect c t = t.readFrame f (w t)) :
    (∀ v, w s.beginEvent = some v → exec c s = .next (s.replied f (dataBytes v) .done)) ∧
      (w s.beginEvent = none → exec c s = .next (s.replied f [0, 0, 0, 0] .badIndex)) := by
  rw [exec_running h.1 hp hr, hc, State.readFrame_taken h]
  refine ⟨fun v hv => ?_, fun hv => ?_⟩ <;> rw [hv]
  · rfl
  · rw [Option.getD_none, dataBytes_zero]
    rfl

theorem exec_writeStaged {s : State} {f : Frame} (h : s.takesFrame f 7) (i : BitVec 16) (w : Word) :
    exec (.writeStaged f i w) s =
      .next ((s.beginEvent.writeStagedWord i w).1.answer f [] (s.beginEvent.writeStagedWord i w).2) :=
  exec_frame (act := fun t => t.writeStagedWord i w) h (by simp) (by simp) fun _ => rfl

theorem State.writeStagedWord_none {s : State} {i : BitVec 16} {w : Word}
    (hw : s.config.staged.writeWord i.toNat w = none) : s.writeStagedWord i w = (s, .badIndex) := by
  unfold State.writeStagedWord
  rw [hw]

theorem State.writeStagedWord_some {s : State} {i : BitVec 16} {w : Word} {p : ParamSet}
    (hw : s.config.staged.writeWord i.toNat w = some p) : s.writeStagedWord i w =
      if s.config.applyPending then (s, .locked) else ({ s with config := { s.config with staged := p } }, .done) := by
  unfold State.writeStagedWord
  rw [hw]

/-- Settles O29: each command by whether its index names a word, and a write by whether an apply is pending. -/
theorem configurationWordCommandsAct : Obligations.ConfigurationWordCommandsAct := by
  intro s f i w h
  obtain ⟨active, noActive⟩ := exec_readFrame (c := .readActive f i) h (by simp) (by simp) fun _ => rfl
  obtain ⟨staged, noStaged⟩ := exec_readFrame (c := .readStaged f i) h (by simp) (by simp) fun _ => rfl
  refine ⟨active, noActive, staged, noStaged, fun p hw hp => ?_, fun p hw hp => ?_, fun hw => ?_⟩ <;>
    rw [exec_writeStaged h]
  · rw [State.writeStagedWord_some (s := s.beginEvent) hw, State.beginEvent_config, hp]
    rfl
  · rw [State.writeStagedWord_some (s := s.beginEvent) hw, State.beginEvent_config, hp]
    rfl
  · rw [State.writeStagedWord_none (s := s.beginEvent) hw]
    rfl

/-! ## The form of a command's frame (R157, R158) -/

/-- The frame of a command that reads no word and streams no record acts at its end; the others read a word of a set, a
record, or a status word. -/
inductive Instr.HasFrame (f : Frame) : Instr → Prop
  | acts {i : Instr} (act : State → State × Result) (hw : readsWord i = false)
      (he : ∀ s, Instr.effect i s = s.frame f (leastFrameBytes i) act) : Instr.HasFrame f i
  | streams (o : BitVec 16) (left : Option Nat) : Instr.HasFrame f (.readRecord f o left)
  | reads {i : Instr} (w : State → Option Word) (hw : readsWord i = true)
      (he : ∀ s, Instr.effect i s = s.readFrame f (w s)) : Instr.HasFrame f i
  | status (j : BitVec 16) : Instr.HasFrame f (.readStatus f j)
  | snapshot : Instr.HasFrame f (.rawTimeSnapshot f)

theorem Instr.hasFrame {i : Instr} {f : Frame} {bytes : List Byte} (h : i.frameParts = some (f, bytes)) :
    Instr.HasFrame f i := by
  cases i with
  | readActive f' j => cases h; exact .reads _ rfl fun _ => rfl
  | readStaged f' j => cases h; exact .reads _ rfl fun _ => rfl
  | readStatus f' j => cases h; exact .status j
  | rawTimeSnapshot f' => cases h; exact .snapshot
  | readRecord f' o left => cases h; exact .streams o left
  | _ => cases h <;> exact .acts _ rfl fun _ => rfl

theorem Instr.ne_reset_of_frameParts {i : Instr} {f : Frame} {bytes : List Byte} (h : i.frameParts = some (f, bytes)) :
    i ≠ .porRstn ∧ i ≠ .resetEnd := by
  constructor <;> rintro rfl <;> cases h

/-! ## Empty, busy and short frames (R158) -/

theorem Instr.HasFrame.effect_empty {f : Frame} {i : Instr} (h : Instr.HasFrame f i) (h0 : f.bytes = 0) (s : State) :
    Instr.effect i s = s.emptyFrame := by
  cases h with
  | acts act hw he => exact (he s).trans (State.frame_empty h0 _ act)
  | reads w hw he => exact (he s).trans (if_pos h0)
  | streams o left => exact if_pos h0
  | status j => exact if_pos h0
  | snapshot => exact if_pos h0

theorem State.statusFrame_busy {s : State} {f : Frame} {j : BitVec 16} (h1 : 1 ≤ f.bytes) (hb : s.judgesBusy f = true)
    (hj : j ≠ quiesceStatusIndex) : s.statusFrame f j = s.answer f [] .busy := by
  have h0 : f.bytes ≠ 0 := by omega
  simp [State.statusFrame, h0, hb, hj]

/-- In a quiesce every frame with a command byte is BUSY, but a READ_STATUS of word 0x400. -/
theorem Instr.HasFrame.effect_busy {f : Frame} {i : Instr} (h : Instr.HasFrame f i) {s : State} (h1 : 1 ≤ f.bytes)
    (hb : s.judgesBusy f = true) (hi : i ≠ .readStatus f 0x400) : Instr.effect i s = s.answer f [] .busy := by
  have h0 : f.bytes ≠ 0 := by omega
  cases h with
  | acts act hw he => exact (he s).trans (State.frame_busy h1 hb _ act)
  | reads w hw he => exact (he s).trans ((if_neg h0).trans (if_pos hb))
  | streams o left => exact (if_neg h0).trans (if_pos hb)
  | status j => exact State.statusFrame_busy h1 hb fun hj => hi (congrArg _ hj)
  | snapshot => exact State.statusFrame_busy h1 hb (by decide)

/-- A frame shorter than its command needs is REFUSED and does nothing else, where it has read no word. -/
theorem Instr.HasFrame.effect_short {f : Frame} {i : Instr} (h : Instr.HasFrame f i) {s : State} (h1 : 1 ≤ f.bytes)
    (hb : s.judgesBusy f = false) (hw : readsWord i = false) (hn : f.bytes < leastFrameBytes i) :
    Instr.effect i s = s.answer f [] .refused := by
  have h0 : f.bytes ≠ 0 := by omega
  have free : ¬s.judgesBusy f = true := by simp [hb]
  cases h with
  | acts act _ he => exact (he s).trans (State.frame_short h1 hb hn act)
  | reads w hr he => exact absurd (hr.symm.trans hw) (by decide)
  | streams o left => exact (if_neg h0).trans ((if_neg free).trans (if_pos hn))
  | status j => cases hw
  | snapshot => cases hw

theorem State.answerWord_short {s : State} {f : Frame} (hn : f.bytes < 7) (w : Option Word) :
    s.answerWord f w = s.answer f (dataBytes (w.getD 0)) .refused := by
  rw [State.answerWord, readResult, if_pos (show f.bytes < wordFrameBytes from hn)]

theorem State.statusFrame_short {s : State} {f : Frame} (h1 : 1 ≤ f.bytes) (hb : s.judgesBusy f = false)
    (hn : f.bytes < 7) (j : BitVec 16) : (s.statusFrame f j).config = { s.config with result := .refused } := by
  have h0 : f.bytes ≠ 0 := by omega
  unfold State.statusFrame
  rw [if_neg h0, hb, Bool.false_and, if_neg Bool.false_ne_true]
  dsimp only
  rw [State.answerWord_short hn]
  split <;> rfl

/-- A short read command is REFUSED too, though it may have read its word. -/
theorem Instr.HasFrame.effect_shortRead {f : Frame} {i : Instr} (h : Instr.HasFrame f i) {s : State} (h1 : 1 ≤ f.bytes)
    (hb : s.judgesBusy f = false) (hw : readsWord i = true) (hn : f.bytes < 7) :
    (Instr.effect i s).config = { s.config with result := .refused } := by
  cases h with
  | acts act hr _ => exact absurd (hw.symm.trans hr) (by decide)
  | reads w _ he =>
    rw [he, State.readFrame_eq h1 hb, State.answerWord_short hn]
    rfl
  | streams o left => cases hw
  | status j => exact State.statusFrame_short h1 hb hn j
  | snapshot => exact State.statusFrame_short h1 hb hn _

theorem leastFrameBytes_of_readsWord {i : Instr} (h : readsWord i = true) : leastFrameBytes i = 7 := by
  cases i with
  | readActive _ _ => rfl
  | readStaged _ _ => rfl
  | readStatus _ _ => rfl
  | rawTimeSnapshot _ => rfl
  | _ => cases h

/-- Settles O42: a short frame by whether its command reads a word, and a frame with an unknown byte. -/
theorem shortAndUnknownFramesRefused : Obligations.ShortAndUnknownFramesRefused := by
  intro s f i bytes h hi
  obtain ⟨hp, hr⟩ := Instr.ne_reset_of_frameParts hi
  have frame := Instr.hasFrame hi
  have free := State.judgesBusy_taken h
  have h1 : 1 ≤ f.bytes := h.2.2.2.2
  refine ⟨fun hw hn => ?_, fun hw hn => ⟨_, exec_running h.1 hp hr, ?_⟩, fun b hb => ?_⟩
  · rw [exec_running h.1 hp hr, frame.effect_short h1 free hw hn, State.answer_beginEvent]
  · exact frame.effect_shortRead h1 free hw (leastFrameBytes_of_readsWord hw ▸ hn)
  · subst hb
    exact exec_frame h hp hr fun _ => rfl

/-- Settles O43: a frame that is BUSY, by its form, and an empty one. -/
theorem busyFramesHaveNoEffect : Obligations.BusyFramesHaveNoEffect := by
  intro s f i bytes h hi
  obtain ⟨hp, hr⟩ := Instr.ne_reset_of_frameParts hi
  have frame := Instr.hasFrame hi
  rw [exec_running h hp hr]
  refine ⟨fun h1 hb hne => ?_, fun h0 => ?_⟩
  · rw [frame.effect_busy (s := s.beginEvent) h1 (Bool.or_eq_true_iff.2 hb) hne, State.answer_beginEvent]
  · rw [frame.effect_empty h0]
    rfl

/-! ## The bytes of a frame (R157, 11.3) -/

theorem extractLsb'_eq_ofNat_div {w : Nat} (x : BitVec w) (start len : Nat) :
    x.extractLsb' start len = BitVec.ofNat len (x.toNat / 2 ^ start) := by
  rw [← Nat.shiftRight_eq_div_pow]
  rfl

theorem indexBytes_eq (i : BitVec 16) : indexBytes i = [BitVec.ofNat 8 (i.toNat / 256), BitVec.ofNat 8 i.toNat] := by
  simp [indexBytes, extractLsb'_eq_ofNat_div]

theorem dataBytes_eq (w : Word) : dataBytes w = [BitVec.ofNat 8 (w.toNat / 2 ^ 24), BitVec.ofNat 8 (w.toNat / 2 ^ 16),
    BitVec.ofNat 8 (w.toNat / 2 ^ 8), BitVec.ofNat 8 w.toNat] := by
  simp [dataBytes, extractLsb'_eq_ofNat_div]

/-- The index of a frame that holds its bytes. -/
theorem frameIndex_indexBytes (b : Byte) (i : BitVec 16) (rest : List Byte) :
    frameIndex (b :: indexBytes i ++ rest) = i := by
  apply BitVec.eq_of_toNat_eq
  simp only [indexBytes_eq, frameIndex, ofBytesMsb, List.cons_append, List.nil_append, List.getD_cons_succ,
    List.getD_cons_zero, List.foldl_cons, List.foldl_nil, BitVec.toNat_ofNat]
  omega

/-- The data of a frame that holds its bytes. -/
theorem frameData_dataBytes (b x y : Byte) (w : Word) (rest : List Byte) :
    frameData (b :: x :: y :: dataBytes w ++ rest) = w := by
  apply BitVec.eq_of_toNat_eq
  simp only [dataBytes_eq, frameData, ofBytesMsb, List.cons_append, List.nil_append, List.getD_cons_succ,
    List.getD_cons_zero, List.foldl_cons, List.foldl_nil, BitVec.toNat_ofNat]
  omega

theorem fitBytes_getElem? (n : Nat) (bytes : List Byte) {k : Nat} (hk : k < n) :
    (fitBytes n bytes)[k]? = some (bytes.getD k 0) := by
  unfold fitBytes
  rw [List.getElem?_take_of_lt hk, List.getD_eq_getElem?_getD]
  by_cases hb : k < bytes.length
  · simp [List.getElem?_append_left hb, hb]
  · rw [List.getElem?_append_right (Nat.le_of_not_lt hb), List.getElem?_eq_none (Nat.le_of_not_lt hb),
      List.getElem?_replicate_of_lt (by omega)]
    rfl

/-- A frame long enough holds its bytes, and zeros after them. -/
theorem fitBytes_of_le {n : Nat} {bytes : List Byte} (h : bytes.length ≤ n) :
    ∃ rest, fitBytes n bytes = bytes ++ rest ∧ (bytes ++ rest).length = n := by
  have fit : fitBytes n bytes = bytes ++ (List.replicate n 0).take (n - bytes.length) := by
    rw [fitBytes, List.take_append, List.take_of_length_le h]
  exact ⟨_, fit, fit ▸ Laws.FramedCommand.fit_length n bytes⟩

/-- A READ_STATUS of the low word of raw time is its own command (R146). -/
theorem decodeFrame_status (j : BitVec 16) (rest : List Byte) (q : Bool) (left : Option Nat) :
    decodeFrame (0x04 :: indexBytes j ++ rest) q left =
      (let f : Frame := ⟨(0x04 :: indexBytes j ++ rest).length, q⟩
       if j = rawTimeIndex then some (.rawTimeSnapshot f) else some (.readStatus f j)) := by
  exact congrArg (fun j => if j = rawTimeIndex then some (Instr.rawTimeSnapshot _) else some (Instr.readStatus _ j))
    (frameIndex_indexBytes 0x04 j rest)

/-- A byte that names no command is read as such (R158). -/
theorem decodeFrame_unknown {b : Byte} (h : b ∉ commandBytes) (rest : List Byte) (q : Bool) (left : Option Nat) :
    decodeFrame (b :: rest) q left = some (.unknownCommandByte ⟨(b :: rest).length, q⟩ b) := by
  simp only [commandBytes, List.mem_cons, List.not_mem_nil, or_false, not_or] at h
  simp only [decodeFrame, h, if_false]

/-- A command reads back from any bytes that begin with its own. -/
theorem decodeFrame_used {i : Instr} {f : Frame} {used : List Byte} (hi : i.wellFormed = true)
    (h : i.frameParts = some (f, used)) (rest : List Byte) (hl : (used ++ rest).length = f.bytes) :
    decodeFrame (used ++ rest) f.beganInQuiesce i.leftAfter? = some i := by
  obtain ⟨n, q⟩ := f
  change (used ++ rest).length = n at hl
  subst hl
  cases i with
  | readActive f' j => cases h; exact congrArg (fun j => some (Instr.readActive _ j)) (frameIndex_indexBytes _ j rest)
  | readStaged f' j => cases h; exact congrArg (fun j => some (Instr.readStaged _ j)) (frameIndex_indexBytes _ j rest)
  | writeStaged f' j w =>
    cases h
    exact congrArg₂ (fun j w => some (Instr.writeStaged _ j w)) (frameIndex_indexBytes _ j (dataBytes w ++ rest))
      (frameData_dataBytes _ _ _ w rest)
  | readStatus f' j =>
    cases h
    exact (decodeFrame_status j rest q _).trans (if_neg (by simpa [Instr.wellFormed] using hi))
  | rawTimeSnapshot f' => cases h; exact (decodeFrame_status _ rest q _).trans (if_pos rfl)
  | ackConditions f' w =>
    cases h
    exact congrArg (fun w => some (Instr.ackConditions _ w)) (frameData_dataBytes _ _ _ w rest)
  | writeAlertEnable f' w =>
    cases h
    exact congrArg (fun w => some (Instr.writeAlertEnable _ w)) (frameData_dataBytes _ _ _ w rest)
  | readRecord f' o left =>
    cases h
    exact congrArg (fun o => some (Instr.readRecord _ o left)) (frameIndex_indexBytes _ o rest)
  | unknownCommandByte f' b =>
    cases h
    exact decodeFrame_unknown (by simpa [Instr.wellFormed] using hi) rest q _
  | _ => cases h <;> rfl

/-- Settles O44: the bytes command by command, how they fill a frame, and that such a frame reads back. -/
theorem framesReadBack : Obligations.FramesReadBack := by
  refine ⟨?_, by decide, fun n bytes => ⟨Laws.FramedCommand.fit_length n bytes,
    fun k hk => fitBytes_getElem? n bytes hk⟩, fun i f used hi h hl => ?_⟩
  · intro f i w left index data
    have hindex : indexBytes i = index := indexBytes_eq i
    have hdata : dataBytes w = data := dataBytes_eq w
    have zero : indexBytes 0 = [0, 0] := by decide
    rw [← hindex, ← hdata]
    refine ⟨rfl, rfl, rfl, rfl, rfl, rfl, ?_, ?_, rfl, fun _ => rfl, by simp [Instr.frameParts]⟩ <;> rw [← zero] <;> rfl
  · obtain ⟨rest, fit, length⟩ := fitBytes_of_le hl
    rw [fit]
    exact decodeFrame_used hi h rest length

end Sys2Proof.Machine
end

section
/-! SUPPORT. The word map of a set (11.4): the bits of each word's fields, and that a word written reads back while every other
word stays. -/

namespace Sys2Proof.Machine

-- One theorem at a time: each would otherwise hold a thread of its own.
set_option Elab.async false

/-! ## Fields written and read (11.4) -/

/-- The field a word gives, put in its place, is the word's own bits there. -/
theorem putField_getField (w : Word) (lo n : Nat) :
    putField lo (getField w lo n) = w &&& putField lo (BitVec.allOnes n) := by
  refine BitVec.eq_of_getLsbD_eq fun k hk => ?_
  rw [BitVec.getLsbD_and, getLsbD_putField _ _ hk, getLsbD_putField _ _ hk, BitVec.testBit_toNat, BitVec.testBit_toNat,
    getField, BitVec.getLsbD_extractLsb', BitVec.getLsbD_allOnes]
  by_cases h : lo ≤ k
  · rw [Nat.add_sub_cancel' h]
    cases w.getLsbD k <;> simp
  · simp [h]

theorem putFlag_getFlag (w : Word) (lo : Nat) : putFlag lo (getFlag w lo) = w &&& putFlag lo true := by
  refine BitVec.eq_of_getLsbD_eq fun k hk => ?_
  rw [BitVec.getLsbD_and, getLsbD_putFlag _ _ hk, getLsbD_putFlag _ _ hk, getFlag]
  by_cases h : k = lo
  · subst h
    cases w.getLsbD k <;> simp
  · have : (decide (lo ≤ k) && decide (k < lo + 1)) = false := by
      rw [← Bool.not_eq_true, Bool.and_eq_true, decide_eq_true_eq, decide_eq_true_eq]
      omega
    rw [this, Bool.false_and, Bool.false_and, Bool.and_false]

/-! ## Halves of an address and of a value (11.4) -/

theorem and_fullWord (w : Word) : w &&& 0xFFFFFFFF = w := BitVec.and_allOnes

theorem addrLow_setAddrLow (a : Addr) (w : Word) : addrLow (setAddrLow a w) = w &&& 0xFFFFFFFF :=
  BitVec.extractLsb'_append_eq_right.trans (and_fullWord w).symm

theorem addrHigh_setAddrLow (a : Addr) (w : Word) : addrHigh (setAddrLow a w) = addrHigh a :=
  congrArg (BitVec.setWidth 32) BitVec.extractLsb'_append_eq_left

theorem addrLow_setAddrHigh (a : Addr) (w : Word) : addrLow (setAddrHigh a w) = addrLow a :=
  BitVec.extractLsb'_append_eq_right

theorem addrHigh_eq_putField (a : Addr) : addrHigh a = putField 0 (a.extractLsb' 32 8) :=
  (BitVec.shiftLeft_zero _).symm

theorem addrHigh_setAddrHigh (a : Addr) (w : Word) : addrHigh (setAddrHigh a w) = w &&& 0xFF := by
  have byte : (setAddrHigh a w).extractLsb' 32 8 = getField w 0 8 := BitVec.extractLsb'_append_eq_left
  have mask : putField 0 (BitVec.allOnes 8) = 0xFF := by decide
  rw [addrHigh_eq_putField, byte, putField_getField, mask]

theorem cellLow_setCellLow (c : Cell) (w : Word) : cellLow (setCellLow c w) = w &&& 0xFFFFFFFF :=
  BitVec.extractLsb'_append_eq_right.trans (and_fullWord w).symm

theorem cellHigh_setCellLow (c : Cell) (w : Word) : cellHigh (setCellLow c w) = cellHigh c :=
  BitVec.extractLsb'_append_eq_left

theorem cellLow_setCellHigh (c : Cell) (w : Word) : cellLow (setCellHigh c w) = cellLow c :=
  BitVec.extractLsb'_append_eq_right

theorem cellHigh_setCellHigh (c : Cell) (w : Word) : cellHigh (setCellHigh c w) = w &&& 0xFFFFFFFF :=
  BitVec.extractLsb'_append_eq_left.trans (and_fullWord w).symm

/-! ## Words that read back -/

/-- Writing the word `w` at `i` gives `x'`, in which that word reads back under its mask and every other word reads as in `x`. -/
structure ReadsBack {α : Type} (read : α → Nat → Option Word) (mask : Nat → Word) (x x' : α) (i : Nat) (w : Word) : Prop where
  named : (read x i).isSome
  own : read x' i = some (w &&& mask i)
  others : ∀ j, j ≠ i → read x' j = read x j

/-- An index names no word for writing or reading, or a word written there reads back. -/
def WordAgrees {α : Type} (read : α → Nat → Option Word) (write : α → Nat → Word → Option α) (mask : Nat → Word) (x : α)
    (i : Nat) (w : Word) : Prop :=
  (write x i w = none ∧ read x i = none) ∨ ∃ x', write x i w = some x' ∧ ReadsBack read mask x x' i w

theorem WatchEntry.wordAgrees (e : WatchEntry) (off : Nat) (w : Word) :
    WordAgrees WatchEntry.readWord WatchEntry.writeWord watchWordMask e off w := by
  by_cases h : off ≤ 10
  · refine .inr ?_
    interval_cases off
    all_goals
      refine ⟨_, rfl, rfl, congrArg some ?_, fun j hj => ?_⟩
      · simp only [putField_getField, putFlag_getFlag, ← BitVec.and_or_distrib_left, addrLow_setAddrLow,
          addrHigh_setAddrHigh, cellLow_setCellLow, cellHigh_setCellHigh]
        rfl
      · simp only [WatchEntry.readWord, hj, if_false, addrHigh_setAddrLow, addrLow_setAddrHigh, cellHigh_setCellLow,
          cellLow_setCellHigh]
  · have ne : ∀ k, k ≤ 10 → off ≠ k := fun k hk => by omega
    refine .inl ⟨?_, ?_⟩ <;> simp [WatchEntry.writeWord, WatchEntry.readWord, ne]

theorem StageDef.readWord_timeout (d : StageDef) {n : Nat} (hn : n ≠ 0) : d.readWord n 2 = some (putField 0 d.timeout) := by
  rw [StageDef.readWord, if_neg (by decide), if_neg (by decide), if_pos ⟨rfl, hn⟩]

theorem StageDef.wordAgrees (d : StageDef) (n off : Nat) (w : Word) :
    WordAgrees (fun d => d.readWord n) (fun d => d.writeWord n) stageWordMask d off w := by
  by_cases h : off ≤ 1
  · refine .inr ?_
    interval_cases off
    all_goals
      refine ⟨_, rfl, rfl, congrArg some ?_, fun j hj => ?_⟩
      · simp only [putField_getField, ← BitVec.and_or_distrib_left]
        rfl
      · simp only [StageDef.readWord, hj, if_false]
  · have h0 : off ≠ 0 := by omega
    have h1 : off ≠ 1 := by omega
    by_cases h2 : off = 2 ∧ n ≠ 0
    · have read : ∀ d : StageDef, d.readWord n off = some (putField 0 d.timeout) := fun d =>
        h2.1 ▸ d.readWord_timeout h2.2
      refine .inr ⟨{ d with timeout := getField w 0 24 }, ?_, ?_, ?_, fun j hj => ?_⟩
      · simp only [StageDef.writeWord, h0, h1, if_false, if_pos h2]
      · exact congrArg Option.isSome (read d)
      · rw [read, putField_getField, h2.1]
        rfl
      · have : ¬(j = 2 ∧ n ≠ 0) := fun hc => hj (hc.1.trans h2.1.symm)
        simp only [StageDef.readWord, this, if_false]
    · refine .inl ⟨?_, ?_⟩ <;> simp only [StageDef.writeWord, StageDef.readWord, h0, h1, h2, if_false]

/-! ## The words of a set -/

/-- The indices of the words of a set that belong to no watch entry and no stage (11.4). -/
def ownIndices : List Nat :=
  [0x000, 0x001, 0x002, 0x003, 0x004, 0x005, 0x020, 0x021, 0x022, 0x023, 0x030, 0x031, 0x032, 0x033, 0x040, 0x041]

theorem ParamSet.readWord_watch (p : ParamSet) {i : Nat} (h : 0x100 ≤ i ∧ i < 0x200) :
    p.readWord i = p.watch[(watchPlace i).1]?.bind fun e => e.readWord (watchPlace i).2 := by
  unfold ParamSet.readWord
  iterate 16 rw [if_neg (by omega)]
  rw [if_pos h]

theorem ParamSet.readWord_stage (p : ParamSet) {i : Nat} (h : 0x200 ≤ i ∧ i < 0x220) :
    p.readWord i = p.stages[(stagePlace i).1]?.bind fun d => d.readWord (stagePlace i).1 (stagePlace i).2 := by
  unfold ParamSet.readWord
  iterate 17 rw [if_neg (by omega)]
  rw [if_pos h]

theorem ParamSet.writeWord_watch (p : ParamSet) {i : Nat} (h : 0x100 ≤ i ∧ i < 0x200) (w : Word) :
    p.writeWord i w = p.watch[(watchPlace i).1]?.bind fun e =>
      (e.writeWord (watchPlace i).2 w).map fun e' => { p with watch := p.watch.set (watchPlace i).1 e' } := by
  unfold ParamSet.writeWord
  iterate 16 rw [if_neg (by omega)]
  rw [if_pos h]

theorem ParamSet.writeWord_stage (p : ParamSet) {i : Nat} (h : 0x200 ≤ i ∧ i < 0x220) (w : Word) :
    p.writeWord i w = p.stages[(stagePlace i).1]?.bind fun d =>
      (d.writeWord (stagePlace i).1 (stagePlace i).2 w).map fun d' =>
        { p with stages := p.stages.set (stagePlace i).1 d' } := by
  unfold ParamSet.writeWord
  iterate 17 rw [if_neg (by omega)]
  rw [if_pos h]

/-- Any other index names no word (R165). -/
theorem ParamSet.word_unnamed {i : Nat} (ho : i ∉ ownIndices) (hw : ¬(0x100 ≤ i ∧ i < 0x200))
    (hs : ¬(0x200 ≤ i ∧ i < 0x220)) (p : ParamSet) : p.readWord i = none ∧ ∀ w, p.writeWord i w = none := by
  simp only [ownIndices, List.mem_cons, List.not_mem_nil, or_false, not_or] at ho
  refine ⟨?_, fun w => ?_⟩
  · simp only [ParamSet.readWord, ho, hw, hs, if_false]
  · simp only [ParamSet.writeWord, ho, hw, hs, if_false]

theorem ParamSet.readsBack_own (p : ParamSet) {i : Nat} (h : i ∈ ownIndices) (w : Word) :
    ∃ q, p.writeWord i w = some q ∧ ReadsBack ParamSet.readWord configWordMask p q i w := by
  revert i
  simp only [ownIndices, List.forall_mem_cons, List.not_mem_nil, false_imp_iff, implies_true, and_true]
  refine ⟨?_, ?_, ?_, ?_, ?_, ?_, ?_, ?_, ⟨_, rfl, rfl, congrArg some (and_fullWord w).symm, fun j hj => ?_⟩, ?_, ?_, ?_,
    ?_, ?_, ?_, ?_⟩
  case refine_9 => simp only [ParamSet.readWord, hj, if_false]
  all_goals
      refine ⟨_, rfl, rfl, congrArg some ?_, fun j hj => ?_⟩
      · simp only [putField_getField, putFlag_getFlag, ← BitVec.and_or_distrib_left, addrLow_setAddrLow,
          addrHigh_setAddrHigh]
        rfl
      · simp only [ParamSet.readWord, hj, if_false, addrHigh_setAddrLow, addrLow_setAddrHigh]

theorem configWordMask_watch {i : Nat} (h : 0x100 ≤ i ∧ i < 0x200) :
    configWordMask i = watchWordMask (watchPlace i).2 := by
  unfold configWordMask
  iterate 10 rw [if_neg (by omega)]
  rw [if_pos h]
  rfl

theorem configWordMask_stage {i : Nat} (h : 0x200 ≤ i ∧ i < 0x220) :
    configWordMask i = stageWordMask (stagePlace i).2 := by
  unfold configWordMask
  iterate 11 rw [if_neg (by omega)]
  rw [if_pos h]
  rfl

/-- `put` replaces the list `xs` of a set's entries, which alone hold the words of a region: each index there is the place of an
entry and an offset in it, another index another place. -/
structure ParamSet.Lists {β : Type} (p : ParamSet) (xs : List β) (put : List β → ParamSet) (region : Nat → Prop)
    (place : Nat → Nat × Nat) (read : Nat → β → Nat → Option Word) : Prop where
  same : put xs = p
  inside : ∀ ys i, region i → (put ys).readWord i = ys[(place i).1]?.bind fun x => read (place i).1 x (place i).2
  outside : ∀ ys i, ¬region i → (put ys).readWord i = p.readWord i
  apart : ∀ i j, region i → region j → place i = place j → i = j

/-- Where a word of a list's region is written into its entry, the set's words agree where the entry's do. -/
theorem ParamSet.Lists.wordAgrees {β : Type} {p : ParamSet} {xs : List β} {put : List β → ParamSet} {region : Nat → Prop}
    {place : Nat → Nat × Nat} {read : Nat → β → Nat → Option Word} (hp : p.Lists xs put region place read)
    {write : Nat → β → Nat → Word → Option β} {mask : Nat → Word} {i : Nat} {w : Word} (hi : region i)
    (hmask : configWordMask i = mask (place i).2)
    (hwrite : p.writeWord i w = xs[(place i).1]?.bind fun x =>
      (write (place i).1 x (place i).2 w).map fun x' => put (xs.set (place i).1 x'))
    (hentry : ∀ x, WordAgrees (read (place i).1) (write (place i).1) mask x (place i).2 w) :
    WordAgrees ParamSet.readWord ParamSet.writeWord configWordMask p i w := by
  have hread := hp.inside xs i hi
  rw [hp.same] at hread
  unfold WordAgrees
  rw [hwrite, hread]
  cases hx : xs[(place i).1]? with
  | none => exact .inl ⟨Option.bind_none _, Option.bind_none _⟩
  | some x =>
    rw [Option.bind_some, Option.bind_some]
    rcases hentry x with ⟨hw, hr⟩ | ⟨x', hw, hr⟩ <;> rw [hw]
    · exact .inl ⟨Option.map_none _, hr⟩
    · have here := (List.getElem?_eq_some_iff.1 hx).1
      refine .inr ⟨_, Option.map_some _ _, ?_, ?_, fun j hj => ?_⟩
      · rw [hread, hx]
        exact hr.named
      · rw [hp.inside _ i hi, List.getElem?_set_self here, hmask]
        exact hr.own
      · by_cases hr' : region j
        · have hread' := hp.inside xs j hr'
          rw [hp.same] at hread'
          rw [hp.inside _ j hr', hread']
          by_cases hn : (place i).1 = (place j).1
          · have hk : (place j).2 ≠ (place i).2 := fun hk => hj (hp.apart j i hr' hi (Prod.ext hn.symm hk))
            rw [← hn, List.getElem?_set_self here, hx]
            exact hr.others _ hk
          · rw [List.getElem?_set_ne hn]
        · exact hp.outside _ j hr'

theorem ParamSet.lists_watch (p : ParamSet) : p.Lists p.watch (fun ys => { p with watch := ys })
    (fun i => 0x100 ≤ i ∧ i < 0x200) watchPlace (fun _ => WatchEntry.readWord) where
  same := rfl
  inside _ _ h := ParamSet.readWord_watch _ h
  outside ys i h := by simp only [ParamSet.readWord, h, if_false]
  apart i j hi hj h := by
    simp only [watchPlace, Prod.mk.injEq] at h
    omega

theorem ParamSet.lists_stage (p : ParamSet) : p.Lists p.stages (fun ys => { p with stages := ys })
    (fun i => 0x200 ≤ i ∧ i < 0x220) stagePlace (fun n d => d.readWord n) where
  same := rfl
  inside _ _ h := ParamSet.readWord_stage _ h
  outside ys i h := by simp only [ParamSet.readWord, h, if_false]
  apart i j hi hj h := by
    simp only [stagePlace, Prod.mk.injEq] at h
    omega

/-- Every index of a set names no word, or a word that reads back (R151, R165). -/
theorem ParamSet.wordAgrees (p : ParamSet) (i : Nat) (w : Word) :
    WordAgrees ParamSet.readWord ParamSet.writeWord configWordMask p i w := by
  by_cases ho : i ∈ ownIndices
  · exact .inr (p.readsBack_own ho w)
  by_cases hw : 0x100 ≤ i ∧ i < 0x200
  · exact p.lists_watch.wordAgrees (write := fun _ => WatchEntry.writeWord) hw (configWordMask_watch hw)
      (p.writeWord_watch hw w) fun e => e.wordAgrees _ w
  by_cases hs : 0x200 ≤ i ∧ i < 0x220
  · exact p.lists_stage.wordAgrees (write := fun n d => d.writeWord n) hs (configWordMask_stage hs)
      (p.writeWord_stage hs w) fun d => d.wordAgrees _ _ w
  obtain ⟨hr, hn⟩ := ParamSet.word_unnamed ho hw hs p
  exact .inl ⟨hn w, hr⟩

/-! ## Which indices name a word (R165) -/

theorem ParamSet.readWord_own (p : ParamSet) {i : Nat} (h : i ∈ ownIndices) : p.readWord i ≠ none := by
  obtain ⟨_, -, hr⟩ := p.readsBack_own h 0
  exact Option.isSome_iff_ne_none.1 hr.named

theorem WatchEntry.readWord_eq_none_iff (e : WatchEntry) (off : Nat) : e.readWord off = none ↔ 10 < off := by
  unfold WatchEntry.readWord
  simp only [ite_eq_iff, reduceCtorEq, and_false, and_true, false_or]
  omega

theorem StageDef.readWord_eq_none_iff (d : StageDef) (n off : Nat) :
    d.readWord n off = none ↔ 2 < off ∨ off = 2 ∧ n = 0 := by
  unfold StageDef.readWord
  simp only [ite_eq_iff, reduceCtorEq, and_false, and_true, false_or]
  omega

theorem ParamSet.readWord_eq_none_iff {p : ParamSet} (hp : p.shaped) (i : Nat) : p.readWord i = none ↔
    ¬(i ≤ 0x005 ∨ 0x020 ≤ i ∧ i ≤ 0x023 ∨ 0x030 ≤ i ∧ i ≤ 0x033 ∨ i = 0x040 ∨ i = 0x041 ∨
      0x100 ≤ i ∧ i < 0x200 ∧ (i - 0x100) % 16 ≤ 10 ∨ 0x200 ≤ i ∧ i < 0x220 ∧ (i - 0x200) % 8 ≤ 2 ∧ i ≠ 0x202) := by
  have own : i ∈ ownIndices ↔
      i ≤ 0x005 ∨ 0x020 ≤ i ∧ i ≤ 0x023 ∨ 0x030 ≤ i ∧ i ≤ 0x033 ∨ i = 0x040 ∨ i = 0x041 := by
    simp only [ownIndices, List.mem_cons, List.not_mem_nil, or_false]
    omega
  obtain ⟨hwatch, hstages⟩ := hp
  by_cases ho : i ∈ ownIndices
  · refine iff_of_false (p.readWord_own ho) ?_
    rw [own] at ho
    omega
  by_cases hw : 0x100 ≤ i ∧ i < 0x200
  · have hn : (watchPlace i).1 < p.watch.length := by
      simp only [watchPlace]
      omega
    rw [p.readWord_watch hw, List.getElem?_eq_getElem hn, Option.bind_some, WatchEntry.readWord_eq_none_iff]
    simp only [watchPlace]
    omega
  by_cases hs : 0x200 ≤ i ∧ i < 0x220
  · have hn : (stagePlace i).1 < p.stages.length := by
      simp only [stagePlace]
      omega
    rw [p.readWord_stage hs, List.getElem?_eq_getElem hn, Option.bind_some, StageDef.readWord_eq_none_iff]
    simp only [stagePlace]
    omega
  refine iff_of_true (ParamSet.word_unnamed ho hw hs p).1 ?_
  rw [own] at ho
  omega

/-! ## The fields of a word (11.4) -/

theorem hasFields_putField {n v : Nat} (lo : Nat) (x : BitVec n) (hv : x.toNat = v := by rfl) :
    hasFields (putField lo x) [(lo, n, v)] := fun k hk => by
  rw [getLsbD_putField lo x hk, hv]
  simp [Bool.and_assoc]

theorem hasFields_putFlag (lo : Nat) (b : Bool) : hasFields (putFlag lo b) [(lo, 1, b.toNat)] := fun k hk => by
  rw [getLsbD_putFlag lo b hk]
  simp [Bool.and_assoc]

/-- Words joined have the fields of both. -/
theorem hasFields.or {a b : Word} {fs gs : List (Nat × Nat × Nat)} (ha : hasFields a fs) (hb : hasFields b gs) :
    hasFields (a ||| b) (fs ++ gs) := fun k hk => by
  rw [BitVec.getLsbD_or, ha k hk, hb k hk, List.any_append]

/-- A whole word is the one field of its 32 bits. -/
theorem hasFields_word (w : Word) : hasFields w [(0, 32, w.toNat)] := fun k hk => by
  simp [hk, BitVec.testBit_toNat]

/-- A half of a longer value is the field of its 32 bits. -/
theorem hasFields_half {m v : Nat} (x : BitVec m) (start : Nat) (hv : x.toNat / 2 ^ start = v := by rfl) :
    hasFields (x.extractLsb' start 32) [(0, 32, v)] := fun k hk => by
  rw [BitVec.getLsbD_extractLsb', ← hv]
  simp [hk, Nat.testBit_div_two_pow, BitVec.testBit_toNat, Nat.add_comm]

theorem hasFields_addrLow (a : Addr) : hasFields (addrLow a) [(0, 32, a.toNat)] := hasFields_half a 0 (Nat.div_one _)

theorem hasFields_addrHigh (a : Addr) : hasFields (addrHigh a) [(0, 8, a.toNat / 2 ^ 32)] := by
  rw [addrHigh_eq_putField]
  refine hasFields_putField 0 _ ?_
  rw [BitVec.extractLsb'_toNat, Nat.shiftRight_eq_div_pow]
  exact Nat.mod_eq_of_lt (Nat.div_lt_of_lt_mul a.isLt)

theorem hasFields_cellLow (c : Cell) : hasFields (cellLow c) [(0, 32, c.toNat)] := hasFields_half c 0 (Nat.div_one _)

theorem hasFields_cellHigh (c : Cell) : hasFields (cellHigh c) [(0, 32, c.toNat / 2 ^ 32)] := hasFields_half c 32

/-- The words of a watch entry of a shaped set stand at sixteen times its number. -/
theorem ParamSet.shaped.readWord_watch {p : ParamSet} (hp : p.shaped) {n k : Nat} {e : WatchEntry}
    (he : p.watch[n]? = some e) (hk : k < 16) : p.readWord (0x100 + 16 * n + k) = e.readWord k := by
  have hn := (List.getElem?_eq_some_iff.1 he).1
  rw [hp.1] at hn
  have place : watchPlace (0x100 + 16 * n + k) = (n, k) := by
    simp only [watchPlace, Prod.mk.injEq]
    omega
  rw [p.readWord_watch (by omega), place, he, Option.bind_some]

/-- The words of a stage of a shaped set stand at eight times its number. -/
theorem ParamSet.shaped.readWord_stage {p : ParamSet} (hp : p.shaped) {n k : Nat} {d : StageDef}
    (hd : p.stages[n]? = some d) (hk : k < 8) : p.readWord (0x200 + 8 * n + k) = d.readWord n k := by
  have hn := (List.getElem?_eq_some_iff.1 hd).1
  rw [hp.2] at hn
  have place : stagePlace (0x200 + 8 * n + k) = (n, k) := by
    simp only [stagePlace, Prod.mk.injEq]
    omega
  rw [p.readWord_stage (by omega), place, hd, Option.bind_some]

/-- Settles O30: a written word by the map's regions, and the fields of each word. -/
theorem writtenWordReadsBack : Obligations.WrittenWordReadsBack := by
  refine ⟨fun p i w => ?_, fun p hp => ⟨?_, fun n e he => ?_, fun n d hd => ?_, ParamSet.readWord_eq_none_iff hp⟩,
    fun p e d => ⟨rfl, rfl, rfl, rfl, rfl, rfl, rfl, rfl, rfl, rfl, rfl⟩⟩
  · rcases p.wordAgrees i w with ⟨hw, hr⟩ | ⟨q, hw, hr⟩ <;> rw [hw]
    · exact ⟨congrArg Option.isSome hr.symm, fun q hq => by cases hq⟩
    · exact ⟨hr.named.symm, fun q' hq => Option.some.inj hq ▸ ⟨hr.own, hr.others⟩⟩
  · exact ⟨⟨_, rfl, ((((((((hasFields_putField 0 p.mode).or (hasFields_putField 2 p.overdueAction)).or
        (hasFields_putField 4 p.capturePolicy)).or (hasFields_putField 6 p.triginMode)).or
        (hasFields_putField 8 p.repeatMode)).or (hasFields_putField 10 p.retriggerMode)).or
        (hasFields_putField 12 p.drainRoute)).or (hasFields_putFlag 16 p.selfQuiet)).or
        (hasFields_putFlag 17 p.trigoutEnable)⟩,
      ⟨_, rfl, hasFields_putField 0 p.overdueLimit⟩, ⟨_, rfl, hasFields_putField 0 p.holdLimit⟩,
      ⟨_, rfl, hasFields_putField 0 p.quiesceLimit⟩,
      ⟨_, rfl, ((hasFields_putField 0 p.preCount).or (hasFields_putField 8 p.postCount)).or
        (hasFields_putField 20 p.maxObs)⟩,
      ⟨_, rfl, hasFields_putField 0 p.suppress⟩,
      ⟨⟨_, rfl, hasFields_addrLow p.spillBase⟩, _, rfl, hasFields_addrHigh p.spillBase⟩,
      ⟨_, rfl, hasFields_word p.spillSize⟩,
      ⟨_, rfl, (hasFields_putFlag 0 p.protection).or (hasFields_putField 8 p.share)⟩,
      ⟨_, rfl, hasFields_putFlag 0 p.pageEnable⟩,
      ⟨⟨_, rfl, hasFields_addrLow p.pageBase⟩, _, rfl, hasFields_addrHigh p.pageBase⟩,
      ⟨_, rfl, hasFields_putField 0 p.permit⟩,
      ⟨_, rfl, (hasFields_putField 0 p.syncMode).or (hasFields_putField 8 p.jitter)⟩,
      _, rfl, hasFields_putField 0 p.period⟩
  · have word {k : Nat} (hk : k < 16) {w : Word} {fs : List (Nat × Nat × Nat)} (hw : e.readWord k = some w)
        (hf : hasFields w fs) : ∃ w, p.readWord (0x100 + 16 * n + k) = some w ∧ hasFields w fs :=
      ⟨w, (hp.readWord_watch he hk).trans hw, hf⟩
    exact ⟨word (k := 0) (by decide) rfl ((((((hasFields_putFlag 0 e.enabled).or (hasFields_putField 8 e.kinds)).or
        (hasFields_putField 16 e.statusFilter)).or (hasFields_putFlag 20 e.capture)).or
        (hasFields_putFlag 24 e.hasRange)).or (hasFields_putFlag 25 e.hasCompare)),
      word (k := 1) (by decide) rfl (hasFields_putField 0 e.initiators),
      word (k := 2) (by decide) rfl (hasFields_putField 0 e.floor),
      ⟨word (k := 3) (by decide) rfl (hasFields_addrLow e.low), word (k := 4) (by decide) rfl (hasFields_addrHigh e.low)⟩,
      ⟨word (k := 5) (by decide) rfl (hasFields_addrLow e.high),
        word (k := 6) (by decide) rfl (hasFields_addrHigh e.high)⟩,
      ⟨word (k := 7) (by decide) rfl (hasFields_cellLow e.compareValue),
        word (k := 8) (by decide) rfl (hasFields_cellHigh e.compareValue)⟩,
      word (k := 9) (by decide) rfl (hasFields_cellLow e.compareMask),
      word (k := 10) (by decide) rfl (hasFields_cellHigh e.compareMask)⟩
  · have word {k : Nat} (hk : k < 8) {w : Word} {fs : List (Nat × Nat × Nat)} (hw : d.readWord n k = some w)
        (hf : hasFields w fs) : ∃ w, p.readWord (0x200 + 8 * n + k) = some w ∧ hasFields w fs :=
      ⟨w, (hp.readWord_stage hd hk).trans hw, hf⟩
    exact ⟨word (k := 0) (by decide) rfl ((((hasFields_putField 0 d.condition).or (hasFields_putField 4 d.action)).or
        (hasFields_putField 8 d.count)).or (hasFields_putField 16 d.window)),
      word (k := 1) (by decide) rfl (hasFields_putField 0 d.watchSet),
      fun hn => word (k := 2) (by decide) (d.readWord_timeout hn) (hasFields_putField 0 d.timeout)⟩

end Sys2Proof.Machine
end

section
/-! SUPPORT. The status words of 11.5 as fields joined: absent fields, whole words, parts of a longer value, the counters and the
spill tags, and what READ_STATUS sends. -/

namespace Sys2Proof.Machine

-- One theorem at a time: each would otherwise hold a thread of its own.
set_option Elab.async false

/-! ## Fields joined (11.5) -/

theorem StatusWord.eq_of_bits {a b : StatusWord}
    (h : ∀ n, a.known.getLsbD n = b.known.getLsbD n ∧ a.value.getLsbD n = b.value.getLsbD n) : a = b := by
  obtain ⟨av, ak⟩ := a
  obtain ⟨bv, bk⟩ := b
  rw [StatusWord.mk.injEq]
  exact ⟨BitVec.eq_of_getLsbD_eq fun n _ => (h n).2, BitVec.eq_of_getLsbD_eq fun n _ => (h n).1⟩

/-- Fields joined among others may be joined first. -/
theorem joinFields_nested (as bs cs : List StatusWord) :
    joinFields (as ++ joinFields bs :: cs) = joinFields (as ++ (bs ++ cs)) :=
  StatusWord.eq_of_bits fun n => by simp [joinFields_getLsbD]

/-- An absent field gives no bit. -/
theorem joinFields_absent (as cs : List StatusWord) : joinFields (as ++ ⟨0, 0⟩ :: cs) = joinFields (as ++ cs) :=
  joinFields_nested as [] cs

theorem joinFields_perm {as bs : List StatusWord} (h : as.Perm bs) : joinFields as = joinFields bs :=
  StatusWord.eq_of_bits fun n => by rw [(joinFields_getLsbD as n).1, (joinFields_getLsbD as n).2,
    (joinFields_getLsbD bs n).1, (joinFields_getLsbD bs n).2, h.any_eq, h.any_eq]; exact ⟨rfl, rfl⟩

theorem joinFields_single (w : StatusWord) : joinFields [w] = w :=
  StatusWord.eq_of_bits fun n => by simp [joinFields_getLsbD]

/-- A status word has the fields it is joined from, where they lie inside 32 bits and do not overlap. -/
theorem State.statusHas_of_fields {s : State} {i : Nat} {w : StatusWord} {fs : List (Nat × Nat × Nat)}
    (h : s.statusWord i = some w) (hw : w = joinFields (fs.map fieldOf))
    (hin : ∀ f ∈ fs, f.1 + f.2.1 ≤ 32 := by simp)
    (hd : fs.Pairwise fun f g => f.1 + f.2.1 ≤ g.1 ∨ g.1 + g.2.1 ≤ f.1 := by simp) : s.statusHas i fs :=
  statusHas_of_join (h.trans (congrArg some hw)) hin hd

/-- A status word that is one field has that field. -/
theorem State.statusHas_field {s : State} {i lo width value : Nat} (h : s.statusWord i = some (statusField lo width value))
    (hin : lo + width ≤ 32 := by decide) : s.statusHas i [(lo, width, value)] :=
  State.statusHas_of_fields h (joinFields_single _).symm (by simpa using hin)

theorem State.statusHas_present {s : State} {i lo width : Nat} {v : Option Nat}
    (h : s.statusWord i = some (statusOption lo width v)) {n : Nat} (hv : v = some n) (hin : lo + width ≤ 32 := by decide) :
    s.statusHas i [(lo, width, n)] :=
  State.statusHas_field (h.trans (congrArg (fun v => some (statusOption lo width v)) hv)) hin

theorem State.statusHas_absent {s : State} {i lo width : Nat} {v : Option Nat}
    (h : s.statusWord i = some (statusOption lo width v)) (hv : v = none) : s.statusHas i [] :=
  State.statusHas_of_fields (h.trans (congrArg (fun v => some (statusOption lo width v)) hv)) rfl

/-! ## Whole words and parts of longer values -/

theorem wholeWord_eq_field (w : Word) : wholeWord w = statusField 0 32 w.toNat := by
  unfold wholeWord statusField
  rw [Nat.mod_eq_of_lt w.isLt, BitVec.ofNat_toNat, BitVec.setWidth_eq, BitVec.shiftLeft_zero]
  rfl

theorem statusField_extract {m : Nat} (x : BitVec m) (lo width start : Nat) :
    statusField lo width (x.extractLsb' start width).toNat = statusField lo width (x.toNat / 2 ^ start) := by
  unfold statusField
  rw [BitVec.extractLsb'_toNat, Nat.shiftRight_eq_div_pow, Nat.mod_mod]

theorem timeLow_eq_field (t : Time) : timeLow t = statusField 0 32 t.toNat := by
  rw [timeLow, wholeWord_eq_field, statusField_extract, Nat.pow_zero, Nat.div_one]

theorem timeHigh_eq_field (t : Time) : timeHigh t = statusField 0 16 (t.toNat / 2 ^ 32) :=
  statusField_extract t 0 16 32

/-! ## Event counters (R176, R177) -/

/-- The counters in the order of their words (11.5). -/
def countersInOrder : List Counter :=
  [.observationsMade, .suppressed, .declinedInitiator, .declinedBoundary, .declinedWindow, .overdue, .late, .orphan, .fires,
    .refused, .nested, .stageTimeouts, .recordsClosed, .truncated, .aborted, .spilled, .skipped, .discarded, .holdEpisodes,
    .holdExpiries, .controlInterpreted, .controlUnpermitted, .controlMalformed, .consumerMalformed, .syncPulses, .syncSlips]

theorem countersInOrder_index (c : Counter) : countersInOrder[c.index]? = some c := by
  cases c <;> rfl

theorem Counter.index_lt (c : Counter) : c.index < 26 :=
  (List.getElem?_eq_some_iff.1 (countersInOrder_index c)).1

theorem Counter.index_inj {c d : Counter} (h : c.index = d.index) : c = d :=
  Option.some.inj ((countersInOrder_index c).symm.trans (h ▸ countersInOrder_index d))

theorem satAdd_toNat (x : Word) (n : Nat) : (satAdd x n).toNat = min (2 ^ 32 - 1) (x.toNat + n) := by
  unfold satAdd
  split
  · rw [BitVec.toNat_ofNat]
    omega
  · rw [BitVec.toNat_allOnes]
    omega

/-- The counters after one of them is changed. -/
theorem getD_modify_counter {cs : List Word} (hl : cs.length = 26) (c d : Counter) (g : Word → Word) :
    (cs.modify c.index g).getD d.index 0 = if d = c then g (cs.getD c.index 0) else cs.getD d.index 0 := by
  have hlt : d.index < cs.length := hl ▸ d.index_lt
  rw [List.getD_eq_getElem?_getD, List.getElem?_modify, List.getElem?_eq_getElem hlt]
  by_cases h : d = c
  · subst h
    simp [hlt]
  · have hne : c.index ≠ d.index := fun hi => h (Counter.index_inj hi.symm)
    simp [h, hne, hlt]

theorem State.count_counter {s : State} (hl : s.conditions.counters.length = 26) (c d : Counter) :
    (s.count c).counter d = if d ≠ c ∨ s.counter c = 0xFFFFFFFF then s.counter d else s.counter d + 1 := by
  have step : (s.count c).counter d = if d = c then satSucc (s.counter c) else s.counter d :=
    getD_modify_counter hl c d satSucc
  by_cases h : d = c
  · subst h
    by_cases hs : s.counter d = 0xFFFFFFFF
    · rw [step, if_pos rfl, if_pos (.inr hs), hs]
      decide
    · rw [step, if_pos rfl, if_neg (not_or.2 ⟨not_not_intro rfl, hs⟩), satSucc_eq, if_neg hs]
  · rw [step, if_neg h, if_pos (.inl h)]

theorem State.countBy_counter {s : State} (hl : s.conditions.counters.length = 26) (c d : Counter) (n : Nat) :
    ((s.countBy c n).counter d).toNat =
      if d = c then min (2 ^ 32 - 1) ((s.counter c).toNat + n) else (s.counter d).toNat := by
  rw [State.counter, State.countBy_counters, getD_modify_counter hl c d (satAdd · n), apply_ite BitVec.toNat, satAdd_toNat]
  rfl

theorem State.statusWord_counters (s : State) {i : Nat} (h : 0x420 ≤ i ∧ i ≤ 0x439) :
    s.statusWord i = s.conditions.counters[i - 0x420]?.map wholeWord := by
  unfold State.statusWord
  iterate 6 rw [if_neg (by omega)]
  rw [if_pos h]

theorem State.statusWord_counter {s : State} (hl : s.conditions.counters.length = 26) (c : Counter) :
    s.statusWord (0x420 + c.index) = some ⟨s.counter c, BitVec.allOnes 32⟩ := by
  have hc := c.index_lt
  have hlt : c.index < s.conditions.counters.length := hl ▸ hc
  have word : s.counter c = s.conditions.counters[c.index] := by
    rw [State.counter, List.getD_eq_getElem _ _ hlt]
  rw [s.statusWord_counters (by omega), Nat.add_sub_cancel_left, List.getElem?_eq_getElem hlt, word]
  rfl

/-! ## Spill tags (word 0x460) -/

/-- Four flags are one field of four bits. -/
theorem statusField_nibble {lo : Nat} (h : lo = 8 ∨ lo = 12) : ∀ a b c d : Bool,
    statusField lo 4 (a.toNat + 2 * b.toNat + 4 * c.toNat + 8 * d.toNat) =
      joinFields [statusFlag lo a, statusFlag (lo + 1) b, statusFlag (lo + 2) c, statusFlag (lo + 3) d] := by
  rcases h with rfl | rfl <;> decide

theorem tagMask_four (a b c d : TagState) (p : TagState → Bool) :
    tagMask [a, b, c, d] p = (p a).toNat + 2 * (p b).toNat + 4 * (p c).toNat + 8 * (p d).toNat := by
  have add (q : Bool) (m n : Nat) : (if q then m + n else m) = m + n * q.toNat := by cases q <;> simp
  simp [tagMask, add]

def tagInUseField (g : TagState × Nat) : Nat × Nat × Nat := (8 + g.2, 1, g.1.isInUse.toNat)

def tagLostField (g : TagState × Nat) : Nat × Nat × Nat := (12 + g.2, 1, (g.1 == .lost).toNat)

/-- The two flags of one tag (11.5). -/
def tagFields (g : TagState × Nat) : List (Nat × Nat × Nat) :=
  match g.1 with
  | .free => [(8 + g.2, 1, 0), (12 + g.2, 1, 0)]
  | .inUse _ => [(8 + g.2, 1, 1), (12 + g.2, 1, 0)]
  | .lost => [(8 + g.2, 1, 0), (12 + g.2, 1, 1)]

theorem tagFields_eq (g : TagState × Nat) : tagFields g = [tagInUseField g, tagLostField g] := by
  obtain ⟨t, n⟩ := g
  cases t <;> rfl

/-- The masks of the tags in use and of the lost ones, joined after other fields, are the flags of each tag. -/
theorem joinFields_tags {tags : List TagState} (h : tags.length = 4) (fs : List (Nat × Nat × Nat)) :
    joinFields (fs.map fieldOf ++
        [statusField 8 4 (tagMask tags TagState.isInUse), statusField 12 4 (tagMask tags (· == .lost))]) =
      joinFields ((fs ++ tags.zipIdx.flatMap tagFields).map fieldOf) := by
  have inUse : statusField 8 4 (tagMask tags TagState.isInUse) =
      joinFields ((tags.zipIdx.map tagInUseField).map fieldOf) := by
    obtain ⟨a, b, c, d, rfl⟩ := List.length_eq_four.1 h
    rw [tagMask_four, statusField_nibble (.inl rfl)]
    rfl
  have lost : statusField 12 4 (tagMask tags (· == .lost)) = joinFields ((tags.zipIdx.map tagLostField).map fieldOf) := by
    obtain ⟨a, b, c, d, rfl⟩ := List.length_eq_four.1 h
    rw [tagMask_four, statusField_nibble (.inr rfl)]
    rfl
  have alternate := List.map_append_flatMap_perm tags.zipIdx tagInUseField fun g => [tagLostField g]
  rw [← List.map_eq_flatMap, ← funext tagFields_eq] at alternate
  rw [inUse, lost, joinFields_nested, ← List.append_assoc, joinFields_nested, List.append_nil, List.append_assoc,
    ← List.map_append, ← List.map_append]
  exact joinFields_perm ((alternate.append_left fs).map fieldOf)

/-- A status word joined from fields in bits 0–7 and the two tag masks has those fields and the flags of each tag. -/
theorem State.statusHas_tags {s : State} (h : s.spill.tags.length = 4) {i : Nat} {w : StatusWord}
    {fs : List (Nat × Nat × Nat)} (hs : s.statusWord i = some w)
    (hw : w = joinFields (fs.map fieldOf ++ [statusField 8 4 (tagMask s.spill.tags TagState.isInUse),
      statusField 12 4 (tagMask s.spill.tags (· == .lost))]))
    (hin : ∀ f ∈ fs, f.1 + f.2.1 ≤ 8 := by simp)
    (hd : fs.Pairwise fun f g => f.1 + f.2.1 ≤ g.1 ∨ g.1 + g.2.1 ≤ f.1 := by simp) :
    s.statusHas i (fs ++ s.spill.tags.zipIdx.flatMap tagFields) := by
  have flags : (∀ g ∈ s.spill.tags.zipIdx.flatMap tagFields, 8 ≤ g.1 ∧ g.1 + g.2.1 ≤ 32) ∧
      (s.spill.tags.zipIdx.flatMap tagFields).Pairwise fun f g => f.1 + f.2.1 ≤ g.1 ∨ g.1 + g.2.1 ≤ f.1 := by
    obtain ⟨a, b, c, d, tags⟩ := List.length_eq_four.1 h
    rw [tags, funext tagFields_eq]
    simp [tagInUseField, tagLostField]
  refine State.statusHas_of_fields hs (hw.trans (joinFields_tags h fs)) (fun f hf => ?_) (List.pairwise_append.2
    ⟨hd, flags.2, fun f hf g hg => .inl ((hin f hf).trans (flags.1 g hg).1)⟩)
  rcases List.mem_append.1 hf with hf | hf
  · exact (hin f hf).trans (by decide)
  · exact (flags.1 f hf).2

/-! ## Which indices name a status word (R165) -/

/-- The indices of the status words that are neither a counter nor a statistic (11.5). -/
def plainStatusIndices : List Nat :=
  [0x400, 0x401, 0x402, 0x403, 0x410, 0x411, 0x440, 0x441, 0x442, 0x443, 0x444, 0x445, 0x446, 0x460, 0x461, 0x462, 0x463,
    0x470, 0x471, 0x472, 0x473, 0x474, 0x475, 0x476, 0x477, 0x478, 0x479]

theorem State.statusWord_plain (s : State) {i : Nat} (h : i ∈ plainStatusIndices) : s.statusWord i ≠ none := by
  rw [← Option.isSome_iff_ne_none]
  revert i
  simp only [plainStatusIndices, List.forall_mem_cons, List.not_mem_nil, false_imp_iff, implies_true, and_true]
  exact ⟨rfl, rfl, rfl, rfl, rfl, rfl, rfl, rfl, rfl, rfl, rfl, rfl, rfl, rfl, rfl, rfl, rfl, rfl, rfl, rfl, rfl, rfl, rfl, rfl,
    rfl, rfl, rfl⟩

theorem State.statusWord_watch (s : State) {i : Nat} (h : 0x480 ≤ i ∧ i ≤ 0x4BF) :
    s.statusWord i = s.watchStats[(i - 0x480) / 4]?.map fun w => w.word ((i - 0x480) % 4) := by
  unfold State.statusWord
  iterate 28 rw [if_neg (by omega)]
  rw [if_pos h]

theorem State.statusWord_unnamed (s : State) {i : Nat} (hp : i ∉ plainStatusIndices) (hc : ¬(0x420 ≤ i ∧ i ≤ 0x439))
    (hw : ¬(0x480 ≤ i ∧ i ≤ 0x4BF)) : s.statusWord i = none := by
  simp only [plainStatusIndices, List.mem_cons, List.not_mem_nil, or_false, not_or] at hp
  simp only [State.statusWord, hp, hc, hw, if_false]

theorem State.statusWord_eq_none_iff {s : State} (hc : s.conditions.counters.length = 26) (hw : s.watchStats.length = 16)
    (i : Nat) : s.statusWord i = none ↔ ¬(0x400 ≤ i ∧ i ≤ 0x403 ∨ i = 0x410 ∨ i = 0x411 ∨ 0x420 ≤ i ∧ i ≤ 0x439 ∨
      0x440 ≤ i ∧ i ≤ 0x446 ∨ 0x460 ≤ i ∧ i ≤ 0x463 ∨ 0x470 ≤ i ∧ i ≤ 0x479 ∨ 0x480 ≤ i ∧ i ≤ 0x4BF) := by
  have plain : i ∈ plainStatusIndices ↔ 0x400 ≤ i ∧ i ≤ 0x403 ∨ i = 0x410 ∨ i = 0x411 ∨ 0x440 ≤ i ∧ i ≤ 0x446 ∨
      0x460 ≤ i ∧ i ≤ 0x463 ∨ 0x470 ≤ i ∧ i ≤ 0x479 := by
    simp only [plainStatusIndices, List.mem_cons, List.not_mem_nil, or_false]
    omega
  by_cases hp : i ∈ plainStatusIndices
  · refine iff_of_false (s.statusWord_plain hp) ?_
    rw [plain] at hp
    omega
  by_cases hcount : 0x420 ≤ i ∧ i ≤ 0x439
  · have hn : i - 0x420 < s.conditions.counters.length := by omega
    rw [s.statusWord_counters hcount, List.getElem?_eq_getElem hn]
    exact iff_of_false (Option.some_ne_none _) (by omega)
  by_cases hwatch : 0x480 ≤ i ∧ i ≤ 0x4BF
  · have hn : (i - 0x480) / 4 < s.watchStats.length := by omega
    rw [s.statusWord_watch hwatch, List.getElem?_eq_getElem hn]
    exact iff_of_false (Option.some_ne_none _) (by omega)
  refine iff_of_true (s.statusWord_unnamed hp hcount hwatch) ?_
  rw [plain] at hp
  omega

/-- The words of an entry's statistics stand at four times its number. -/
theorem State.statusWord_stat {s : State} (hw : s.watchStats.length = 16) {n k : Nat} {w : WatchStat}
    (hn : s.watchStats[n]? = some w) (hk : k < 4) : s.statusWord (0x480 + 4 * n + k) = some (w.word k) := by
  have hlt := (List.getElem?_eq_some_iff.1 hn).1
  have place : (0x480 + 4 * n + k - 0x480) / 4 = n ∧ (0x480 + 4 * n + k - 0x480) % 4 = k := by omega
  rw [s.statusWord_watch (by omega), place.1, place.2, hn]
  rfl

/-! ## What READ_STATUS sends (R158, R161) -/

theorem StatusWord.sent_and_known (w : StatusWord) (i k : Nat) : w.sent i k &&& w.known = w.value &&& w.known := by
  unfold StatusWord.sent
  split
  · rfl
  · refine BitVec.eq_of_getLsbD_eq fun n hn => ?_
    simp only [BitVec.getLsbD_and, BitVec.getLsbD_or, BitVec.getLsbD_not, hn, decide_true, Bool.true_and]
    cases w.known.getLsbD n <;> simp

/-- A frame of a status word that is not BUSY, or of word 0x400, sends what its index reads. -/
theorem State.statusFrame_eq {s : State} {f : Frame} {i : BitVec 16} (hi : i ≠ rawTimeIndex) (hn : 7 ≤ f.bytes)
    (hb : s.judgesBusy f = false ∨ i = quiesceStatusIndex) :
    s.statusFrame f i = (s.spendChoices 1).answerWord f (s.readStatusWord i.toNat) := by
  have h0 : f.bytes ≠ 0 := by omega
  have index : indexComplete f = true := decide_eq_true (by omega)
  have raw : (i == rawTimeIndex) = false := beq_false_of_ne hi
  have free : (s.judgesBusy f && !(indexComplete f && i == quiesceStatusIndex)) = false := by
    rcases hb with hb | hb
    · rw [hb, Bool.false_and]
    · rw [index, hb, beq_self_eq_true, Bool.and_self, Bool.not_true, Bool.and_false]
  unfold State.statusFrame
  rw [if_neg h0, free, raw, if_neg Bool.false_ne_true, Bool.and_false]
  rfl

theorem exec_readStatus {s : State} {f : Frame} {i : BitVec 16} (hr : s.running) (hi : i ≠ 0x470) (hn : 7 ≤ f.bytes)
    (hb : s.quiescing = false ∧ f.beganInQuiesce = false ∨ i = 0x400) :
    exec (.readStatus f i) s = .next { s.replied f (dataBytes ((s.readStatusWord i.toNat).getD 0))
      (if (s.readStatusWord i.toNat).isSome then .done else .badIndex) with freeIndex := s.freeIndex + 1 } := by
  have taken : s.beginEvent.judgesBusy f = false ∨ i = quiesceStatusIndex :=
    hb.imp_left fun h => Bool.or_eq_false_iff.2 ⟨h.2, h.1⟩
  rw [exec_running hr (by simp) (by simp)]
  refine congrArg _ ((State.statusFrame_eq hi hn taken).trans ?_)
  rw [State.answerWord, readResult, if_neg (show ¬f.bytes < wordFrameBytes from Nat.not_lt.2 hn)]
  rfl

/-! ## The status words -/

theorem WatchStat.statusHas {s : State} (hl : s.watchStats.length = 16) {n : Nat} {w : WatchStat}
    (hn : s.watchStats[n]? = some w) :
    s.statusHas (0x480 + 4 * n) [(0, 32, w.hits.toNat)] ∧
      s.statusHas (0x480 + 4 * n + 1) [(0, 32, match w.lastSequence with
        | some q => q.toNat
        | none => 0)] ∧
      s.statusHas (0x480 + 4 * n + 2) (match w.maxLatency with
        | some l => [(0, 24, l)]
        | none => [(0, 32, 0)]) ∧
      s.statusHas (0x480 + 4 * n + 3) [(0, 1, w.lastSequence.isSome.toNat), (1, 1, w.maxLatency.isSome.toNat)] := by
  have word {k : Nat} (hk : k < 4) := State.statusWord_stat hl hn hk
  obtain ⟨hits, lastSequence, maxLatency⟩ := w
  refine ⟨?_, ?_, ?_, ?_⟩
  · exact State.statusHas_field ((word (by decide : 0 < 4)).trans (congrArg some (wholeWord_eq_field hits)))
  · cases lastSequence with
    | some q => exact State.statusHas_field ((word (by decide : 1 < 4)).trans (congrArg some (wholeWord_eq_field q)))
    | none => exact State.statusHas_field ((word (by decide : 1 < 4)).trans (congrArg some (wholeWord_eq_field 0)))
  · cases maxLatency with
    | some l => exact State.statusHas_field (word (by decide : 2 < 4))
    | none => exact State.statusHas_field ((word (by decide : 2 < 4)).trans (congrArg some (wholeWord_eq_field 0)))
  · exact State.statusHas_of_fields (word (by decide : 3 < 4)) rfl

theorem State.statusHas_refusal (s : State) : s.statusHas 0x401 ((8, 1, s.config.refusalCause.isSome.toNat) ::
      (match s.config.refusalCause with
        | some n => [(0, 4, n)]
        | none => [])) := by
  have word : s.statusWord 0x401 = some (joinFields [statusOption 0 4 s.config.refusalCause,
    statusFlag 8 s.config.refusalCause.isSome]) := rfl
  cases hc : s.config.refusalCause with
  | none =>
    rw [hc] at word
    exact State.statusHas_of_fields word (joinFields_absent [] [_])
  | some n =>
    rw [hc] at word
    exact State.statusHas_of_fields word (joinFields_perm (.swap ..))

theorem State.statusHas_trigger (s : State) : s.statusHas 0x440 (match s.trigger.state with
      | .disarmed => [(0, 2, 0)]
      | .armed a => [(0, 2, 1), (4, 2, a.stage)] ++
          (if (s.config.active.stage a.stage).condition? = some .hits then
            [(8, 7, if (s.config.active.stage a.stage).window = 0 then a.cumulative else a.outcomes.count true)]
          else [])
      | .capturing => [(0, 2, 2)]) := by
  have word : s.statusWord 0x440 = some (joinFields [statusField 0 2 s.trigger.state.code, statusOption 4 2 s.currentStage,
    statusOption 8 7 s.windowHits]) := rfl
  unfold State.currentStage State.windowHits at word
  cases h : s.trigger.state with
  | disarmed =>
    rw [h] at word
    exact State.statusHas_of_fields word ((joinFields_absent [_] [_]).trans (joinFields_absent [_] []))
  | capturing =>
    rw [h] at word
    exact State.statusHas_of_fields word ((joinFields_absent [_] [_]).trans (joinFields_absent [_] []))
  | armed a =>
    rw [h] at word
    dsimp only at word ⊢
    by_cases hits : (s.config.active.stage a.stage).condition? = some .hits
    · rw [if_pos hits] at word ⊢
      exact State.statusHas_of_fields word rfl
    · rw [if_neg hits] at word ⊢
      exact State.statusHas_of_fields word (joinFields_absent [_, _] [])

theorem State.statusHas_head (s : State) : s.statusHas 0x443 (match s.store.directory with
      | h :: _ => [(0, 13, h.cells.length), (16, 1, if h.state = .spilling then 1 else 0), (24, 1, 1)]
      | [] => [(24, 1, 0)]) := by
  have word : s.statusWord 0x443 = some (joinFields [statusOption 0 13 (s.store.directory.head?.map (·.cells.length)),
    statusOption 16 1 (s.store.directory.head?.map fun e => (e.state == .spilling).toNat),
    statusFlag 24 s.store.directory.head?.isSome]) := rfl
  cases hd : s.store.directory with
  | nil =>
    rw [hd] at word
    exact State.statusHas_of_fields word ((joinFields_absent [] [_, _]).trans (joinFields_absent [] [_]))
  | cons e es =>
    have spilling : (e.state == .spilling).toNat = if e.state = .spilling then 1 else 0 := by
      cases e.state <;> rfl
    rw [hd] at word
    dsimp only
    rw [← spilling]
    exact State.statusHas_of_fields word rfl

theorem State.statusHas_open (s : State) : s.statusHas 0x445 (match s.store.openRecord with
      | some r => [(0, 11, r.observations.length), (12, 8, r.nested), (24, 1, 1)]
      | none => [(24, 1, 0)]) := by
  have word : s.statusWord 0x445 = some (joinFields [statusOption 0 11 (s.store.openRecord.map (·.observations.length)),
    statusOption 12 8 (s.store.openRecord.map (·.nested)), statusFlag 24 s.store.openRecord.isSome]) := rfl
  cases hr : s.store.openRecord with
  | none =>
    rw [hr] at word
    exact State.statusHas_of_fields word ((joinFields_absent [] [_, _]).trans (joinFields_absent [] [_]))
  | some r =>
    rw [hr] at word
    exact State.statusHas_of_fields word rfl

/-- The fields of the engine's state and of its fault cause (11.5). -/
def engineFields : EngineState → List (Nat × Nat × Nat)
  | .off => [(0, 3, 0), (6, 1, 0)]
  | .init => [(0, 3, 1), (6, 1, 0)]
  | .idle => [(0, 3, 2), (6, 1, 0)]
  | .waitSpace => [(0, 3, 3), (6, 1, 0)]
  | .writing => [(0, 3, 4), (6, 1, 0)]
  | .publish => [(0, 3, 5), (6, 1, 0)]
  | .fault .writeFault => [(0, 3, 6), (4, 2, 0), (6, 1, 1)]
  | .fault .publishFault => [(0, 3, 6), (4, 2, 1), (6, 1, 1)]
  | .fault .initFault => [(0, 3, 6), (4, 2, 2), (6, 1, 1)]
  | .fault .oversize => [(0, 3, 6), (4, 2, 3), (6, 1, 1)]

theorem engineFields_of_cause_none {e : EngineState} (h : e.cause = none) : engineFields e = [(0, 3, e.code), (6, 1, 0)] := by
  cases e with
  | fault c => cases h
  | _ => rfl

theorem engineFields_of_cause_some {e : EngineState} {c : FaultCause} (h : e.cause = some c) :
    engineFields e = [(0, 3, e.code), (4, 2, c.code), (6, 1, 1)] := by
  cases e with
  | fault c' => cases h; cases c <;> rfl
  | _ => cases h

theorem State.statusHas_engine {s : State} (h : s.spill.tags.length = 4) :
    s.statusHas 0x460 (engineFields s.spill.engine ++ s.spill.tags.zipIdx.flatMap tagFields) := by
  have word : s.statusWord 0x460 = some (joinFields [statusField 0 3 s.spill.engine.code,
    statusOption 4 2 (s.spill.engine.cause.map FaultCause.code), statusFlag 6 s.spill.engine.cause.isSome,
    statusField 8 4 (tagMask s.spill.tags TagState.isInUse), statusField 12 4 (tagMask s.spill.tags (· == .lost))]) := rfl
  cases hc : s.spill.engine.cause with
  | none =>
    rw [hc] at word
    rw [engineFields_of_cause_none hc]
    exact State.statusHas_tags h word (joinFields_absent [_] [_, _, _])
  | some c =>
    rw [hc] at word
    rw [engineFields_of_cause_some hc]
    exact State.statusHas_tags h word rfl

theorem State.statusHas_pulse (s : State) :
    s.statusHas 0x477 (match s.clock.lastPulse with
      | some t => [(0, 32, t.toNat)]
      | none => []) ∧
    s.statusHas 0x478 (match s.clock.lastPulse with
      | some t => [(0, 16, t.toNat / 2 ^ 32), (31, 1, 1)]
      | none => [(31, 1, 0)]) := by
  have low : s.statusWord 0x477 = some (statusOption 0 32 (s.clock.lastPulse.map fun t => (t.extractLsb' 0 32).toNat)) :=
    rfl
  have high : s.statusWord 0x478 = some (joinFields [
    statusOption 0 16 (s.clock.lastPulse.map fun t => (t.extractLsb' 32 16).toNat),
    statusFlag 31 s.clock.lastPulse.isSome]) := rfl
  cases hp : s.clock.lastPulse with
  | none =>
    rw [hp] at low high
    exact ⟨State.statusHas_absent low rfl, State.statusHas_of_fields high (joinFields_absent [] [_])⟩
  | some t =>
    rw [hp] at low high
    refine ⟨State.statusHas_field (low.trans (congrArg some ?_)), State.statusHas_of_fields high
      (congrArg (fun w => joinFields [w, statusFlag 31 true]) (statusField_extract t 0 16 32))⟩
    exact (statusField_extract t 0 32 0).trans (by rw [Nat.pow_zero, Nat.div_one])

/-- Settles O31: what a read sends by whether its index names a word, then each word of 11.5 by its fields. -/
theorem readStatusSendsWord : Obligations.ReadStatusSendsWord := by
  refine ⟨fun s f i hi hn hr hb => ?_, fun s hcount hstats => ⟨⟨?_, ?_, ?_, ?_, rfl, rfl, fun q hq => ?_, fun c d n => ?_⟩,
    ⟨?_, ?_, ?_, ?_, ?_, ?_, ?_⟩, fun htags => ?_, ⟨?_, ?_, ?_⟩, ⟨?_, ?_, ?_, ?_, ?_, ?_, ?_, ?_, ?_, ?_⟩,
    fun n w hn => WatchStat.statusHas hstats hn, State.statusWord_eq_none_iff hcount hstats⟩⟩
  · rw [exec_readStatus hr hi hn hb, State.readStatusWord]
    refine ⟨fun w hw => ⟨w.sent i.toNat s.freeIndex, w.sent_and_known _ _, ?_⟩, fun hw => ?_⟩ <;> rw [hw]
    · rfl
    · rw [Option.map_none, Option.getD_none, dataBytes_zero]
      rfl
  -- The configuration and the transit table.
  · exact State.statusHas_of_fields rfl rfl
  · exact s.statusHas_refusal
  · exact State.statusHas_of_fields rfl rfl
  · cases ht : s.transit.holdTimer with
    | none => exact State.statusHas_absent rfl ht
    | some t => exact State.statusHas_present rfl ht
  -- The counters.
  · have hi : q.1 = 0x420 + q.2.index := by
      revert hq
      revert q
      decide
    rw [hi]
    exact State.statusWord_counter hcount q.2
  · exact ⟨rfl, rfl, (List.length_modify ..).trans hcount, (List.length_modify ..).trans hcount, satAdd_toNat _ n,
      State.count_counter hcount c d, State.countBy_counter hcount c d n⟩
  -- The trigger unit and the store.
  · exact s.statusHas_trigger
  · exact State.statusHas_of_fields rfl rfl
  · cases hd : s.store.directory with
    | nil => exact State.statusHas_absent rfl (by rw [hd]; rfl)
    | cons e es => exact State.statusHas_present rfl (by rw [hd]; rfl)
  · exact s.statusHas_head
  · exact State.statusHas_field (congrArg some (wholeWord_eq_field _))
  · exact s.statusHas_open
  · cases hr : s.store.openRecord with
    | none => exact State.statusHas_absent rfl (by rw [hr]; rfl)
    | some r => exact State.statusHas_present rfl (by rw [hr]; rfl)
  -- The spill engine.
  · exact State.statusHas_engine htags
  · exact State.statusHas_field rfl
  · exact State.statusHas_field (congrArg some (wholeWord_eq_field _))
  · exact State.statusHas_field rfl
  -- Time.
  · exact State.statusHas_field (congrArg some (timeLow_eq_field _))
  · exact State.statusHas_field (congrArg some (timeHigh_eq_field _))
  · exact State.statusHas_field (congrArg some (timeLow_eq_field _))
  · exact State.statusHas_field (congrArg some (timeHigh_eq_field _))
  · exact State.statusHas_field (congrArg some (timeLow_eq_field _))
  · exact State.statusHas_field (congrArg some (timeHigh_eq_field _))
  · exact State.statusHas_of_fields rfl rfl
  · exact s.statusHas_pulse.1
  · exact s.statusHas_pulse.2
  · cases hd : s.clock.lastPhase with
    | none => exact State.statusHas_absent rfl (by rw [hd]; rfl)
    | some d => exact State.statusHas_present rfl (by rw [hd, Option.map_some, BitVec.toNat_ofInt]; rfl)

end Sys2Proof.Machine
end

