-- ==== Sys2Proof/Proofs/Conditions.lean ====
section
/-! SUPPORT. The condition word bit by bit, what sets and what clears a sticky condition, and the level conditions and lines
in the terms of the states they follow. -/

namespace Sys2Proof.Machine

-- One theorem at a time: each would otherwise hold a thread of its own.
set_option Elab.async false

/-! ## The bits of a condition (11.3) -/

theorem Sticky.bit_range (k : Sticky) : 8 ≤ k.bit ∧ k.bit ≤ 20 := by
  cases k <;> decide

theorem Sticky.bit_lt (k : Sticky) : k.bit < 32 := by
  have := k.bit_range
  omega

theorem stickyMask_getLsbD {b : Nat} (hb : b < 32) : stickyMask.getLsbD b = decide (8 ≤ b ∧ b ≤ 20) := by
  revert b
  decide

theorem conditionMask_getLsbD (b : Nat) : conditionMask.getLsbD b = decide (b ≤ 3 ∨ 8 ≤ b ∧ b ≤ 20) := by
  have low : ∀ b < 32, conditionMask.getLsbD b = decide (b ≤ 3 ∨ 8 ≤ b ∧ b ≤ 20) := by decide
  by_cases hb : b < 32
  · exact low b hb
  · rw [BitVec.getLsbD_of_ge _ _ (Nat.le_of_not_lt hb), eq_comm, decide_eq_false_iff_not]
    omega

/-- The sticky mask holds the bit of every sticky condition. -/
theorem Sticky.stickyMask_bit (k : Sticky) : stickyMask.getLsbD k.bit = true := by
  rw [stickyMask_getLsbD k.bit_lt, decide_eq_true k.bit_range]

/-! ## What sets and what clears a sticky condition (R173, R174) -/

theorem State.raise_isSet (s : State) (k : Sticky) : (s.raise k).isSet k = true := by
  simp [State.isSet, k.bit_lt]

/-- What sets a sticky condition sets its bit and nothing else. -/
theorem State.raise_eq (s : State) (k : Sticky) : s.raise k =
    { s with conditions := { s.conditions with
      sticky := s.conditions.sticky ||| BitVec.ofNat 32 (2 ^ k.bit) } } := by
  have one : (1 : Word) <<< k.bit = BitVec.ofNat 32 (2 ^ k.bit) :=
    BitVec.eq_of_toNat_eq (by simp [Nat.shiftLeft_eq])
  rw [State.raise, one]

/-- An acknowledgement clears the sticky conditions it names and keeps the others. -/
theorem State.ackSticky_isSet (s : State) (m : Word) (k : Sticky) :
    (s.ackSticky m).isSet k = (s.isSet k && !m.getLsbD k.bit) := by
  simp only [State.isSet, State.ackSticky, BitVec.getLsbD_and, BitVec.getLsbD_not, k.stickyMask_bit, decide_eq_true k.bit_lt,
    Bool.and_true, Bool.true_and]

/-- Settles O36: the frame the port takes is the acknowledgement, and the one in a quiesce is BUSY as every frame is. -/
theorem ackConditionsClearsNamed : Obligations.AckConditionsClearsNamed := by
  intro s f m
  refine ⟨fun taken => ⟨(s.ackSticky m).conditions.sticky, ?_, s.ackSticky_isSet m⟩, fun running quiesce h7 => ?_,
    s.raise_isSet⟩
  · exact exec_doneFrame (act := fun t => t.ackSticky m) taken (by simp) (by simp) fun _ => rfl
  · exact (busyFramesHaveNoEffect s f (.ackConditions f m) _ running rfl).1 (by omega) (.inr quiesce) (by simp)

/-! ## The condition word (R172, R173, R180) -/

theorem getLsbD_putFlag_eq (lo : Nat) (b : Bool) {k : Nat} (hk : k < 32) :
    (putFlag lo b).getLsbD k = (decide (k = lo) && b) := by
  rw [getLsbD_putFlag lo b hk]
  by_cases h : k = lo
  · subst h
    cases b <;> simp
  · have outside : ¬(lo ≤ k ∧ k < lo + 1) := by omega
    rw [← Bool.decide_and, decide_eq_false outside, decide_eq_false h, Bool.false_and, Bool.false_and]

theorem State.levelBits_getLsbD (s : State) {b : Nat} (hb : b < 32) : s.levelBits.getLsbD b =
    (decide (b = 0) && s.recordReady || decide (b = 1) && s.storeLow || decide (b = 2) && s.holding ||
      decide (b = 3) && s.spillWait) := by
  simp only [State.levelBits, BitVec.getLsbD_or, getLsbD_putFlag_eq _ _ hb]

/-- No level condition stands above bit 3. -/
theorem State.levelBits_getLsbD_of_ge (s : State) {b : Nat} (hb : b < 32) (h4 : 4 ≤ b) : s.levelBits.getLsbD b = false := by
  rw [s.levelBits_getLsbD hb]
  simp [show b ≠ 0 by omega, show b ≠ 1 by omega, show b ≠ 2 by omega, show b ≠ 3 by omega]

theorem State.conditionWord_getLsbD (s : State) {b : Nat} (hb : b < 32) : s.conditionWord.getLsbD b =
    (s.levelBits.getLsbD b || s.conditions.sticky.getLsbD b && decide (8 ≤ b ∧ b ≤ 20)) := by
  rw [State.conditionWord, BitVec.getLsbD_or, BitVec.getLsbD_and, stickyMask_getLsbD hb]

/-- Bits 0–3 of the condition word are the level conditions. -/
theorem State.conditionWord_level (s : State) :
    s.conditionWord.getLsbD 0 = s.recordReady ∧ s.conditionWord.getLsbD 1 = s.storeLow ∧
      s.conditionWord.getLsbD 2 = s.holding ∧ s.conditionWord.getLsbD 3 = s.spillWait := by
  refine ⟨?_, ?_, ?_, ?_⟩ <;> rw [s.conditionWord_getLsbD (by decide), s.levelBits_getLsbD (by decide)] <;> simp

/-- Bits 8–20 of the condition word are the sticky conditions. -/
theorem State.conditionWord_sticky (s : State) (k : Sticky) : s.conditionWord.getLsbD k.bit = s.isSet k := by
  have noLevel : s.levelBits.getLsbD k.bit = false :=
    s.levelBits_getLsbD_of_ge k.bit_lt (Nat.le_trans (by decide) k.bit_range.1)
  rw [s.conditionWord_getLsbD k.bit_lt, noLevel, decide_eq_true k.bit_range, Bool.and_true, Bool.false_or, State.isSet]

/-! ## The level conditions and the lines in the state's terms (R85, R87, R88, R175) -/

theorem State.storeLow_iff (s : State) : s.storeLow = true ↔
    s.freeCells < s.config.active.reservation ∨ 256 ≤ s.store.directory.length := by
  rw [State.storeLow, Bool.not_eq_true', ← Bool.not_eq_true, s.fireFits_iff, not_and_or, not_le, not_lt]

theorem State.recordReady_iff (s : State) : s.recordReady = true ↔ s.store.directory ≠ [] := by
  simp [State.recordReady]

theorem State.holding_iff (s : State) : s.holding = true ↔ s.transit.holdTimer ≠ none :=
  Option.isSome_iff_ne_none

theorem State.spillWait_iff (s : State) : s.spillWait = true ↔ s.spill.engine = .waitSpace := by
  simp [State.spillWait]

/-- A word is other than zero where some bit of it is set. -/
theorem word_ne_zero_iff (w : Word) : w ≠ 0 ↔ ∃ b, w.getLsbD b = true := by
  refine ⟨fun h => ?_, ?_⟩
  · by_contra none
    exact h (BitVec.eq_of_getLsbD_eq fun b _ => by simpa using not_exists.1 none b)
  · rintro ⟨b, hb⟩ rfl
    simp at hb

theorem State.alert_iff (s : State) : s.alert = true ↔ s.held = false ∧ ∃ b, (b ≤ 3 ∨ 8 ≤ b ∧ b ≤ 20) ∧
    s.conditionWord.getLsbD b = true ∧ s.conditions.alertEnable.getLsbD b = true := by
  have bits : ∀ b, (s.conditionWord &&& s.conditions.alertEnable &&& conditionMask).getLsbD b = true ↔
      (b ≤ 3 ∨ 8 ≤ b ∧ b ≤ 20) ∧ s.conditionWord.getLsbD b = true ∧ s.conditions.alertEnable.getLsbD b = true := by
    intro b
    rw [BitVec.getLsbD_and, BitVec.getLsbD_and, conditionMask_getLsbD, Bool.and_eq_true, Bool.and_eq_true,
      decide_eq_true_iff, and_comm]
  rw [State.alert, Bool.and_eq_true, Bool.not_eq_true', bne_iff_ne, word_ne_zero_iff, exists_congr bits]

theorem State.busy_iff (s : State) : s.busy = true ↔
    s.held = false ∧ (s.trigger.state = .capturing ∨ s.storeLow = true) := by
  rw [State.busy, Bool.and_eq_true, Bool.not_eq_true', Bool.or_eq_true, s.capturing_iff]

/-- Settles O37: STORE_LOW by the room a fire needs, the condition word bit by bit, then each line. -/
theorem linesFollowConditions : Obligations.LinesFollowConditions := by
  intro s
  obtain ⟨ready, low, holding, wait⟩ := s.conditionWord_level
  refine ⟨rfl, s.storeLow_iff, ?_, ?_, ?_, ?_, fun q hq => ?_, s.alert_iff, ?_, Option.isSome_iff_ne_none⟩
  · rw [ready, s.recordReady_iff]
  · exact low ▸ s.storeLow_iff
  · rw [holding, s.holding_iff]
  · rw [wait, s.spillWait_iff]
  · have bit : q.2.bit = q.1 := by
      revert hq
      revert q
      decide
    exact ⟨bit, bit ▸ s.conditionWord_sticky q.2, bit ▸ s.raise_eq q.2⟩
  · rw [s.busy_iff, s.storeLow_iff]
    rfl

end Sys2Proof.Machine
end

section
/-! SUPPORT. What a part held in reset makes of a command. -/

namespace Sys2Proof.Machine

/-- Settles O4: such a command is one event of the part, and a part held in reset takes no event. -/
theorem heldPartIgnoresCommands : Obligations.HeldPartIgnoresCommands := by
  intro c s held hp hr hq
  calc exec c s = onEvent s (Instr.effect c) := exec_eq_onEvent hp hr fun _ => hq
    _ = .next s := onEvent_held held _

end Sys2Proof.Machine
end

section
/-! SUPPORT. The queue of waiting commands: a step takes its front, and no event of the part changes it. What an event does at
the observation path, the trigger, the records, the spill engine or the clock is said by the KeepsTraffic and KeepsChannels
laws, so only the transit unit, the frames and the resets are left to say here. -/

namespace Sys2Proof.Machine

/-- Settles O1: of the two cases of a step, a queue with a front is the second. -/
theorem frontCommandRuns : Obligations.FrontCommandRuns := by
  intro c rest s front
  unfold step
  rw [front]

/-! ## The transit unit -/

theorem State.presentRequest_pending (s : State) (r : Request) : (s.presentRequest r).pending = s.pending := by
  unfold State.presentRequest
  split
  · rfl
  · dsimp only
    split <;> exact (State.followHold_keeps _).pending

/-- Both outcomes of the decline checks leave the queue: an accepted request joins by a record update, a declined one is
observed too. -/
theorem State.takeRequest_pending (s : State) (r : Request) : (s.takeRequest r).pending = s.pending := by
  unfold State.takeRequest
  split
  · exact (State.observe_keeps _ _ _).pending
  · rfl

theorem State.takePresented_pending (s : State) : s.takePresented.pending = s.pending := by
  unfold State.takePresented
  split
  · exact State.whenDue_kept (P := fun t => t.pending = s.pending) (fun _ => s.takeRequest_pending _) rfl
  · rfl

theorem State.arbitrate_pending (s : State) : s.arbitrate.pending = s.pending := by
  unfold State.arbitrate
  repeat' split
  all_goals rfl

theorem State.takeDownstream_pending (s : State) : s.takeDownstream.pending = s.pending := by
  unfold State.takeDownstream
  split
  · rfl
  · dsimp only
    split <;> rfl

/-- An orphan, a CUT entry's late response and an ISSUED entry's answer each change the queue no more than their
observation does. -/
theorem State.memoryResponse_pending (s : State) (r : Response) : (s.memoryResponse r).pending = s.pending := by
  unfold State.memoryResponse
  dsimp only
  split
  · exact (State.orphanResponse_keeps _ r).pending
  · split
    · exact (s.orphanResponse_keeps r).pending
    · split
      · exact (State.observe_keeps _ _ _).pending
      · exact (State.observeAndOffer_keeps _ _ _ _ _).pending

theorem State.takeResponse_pending (s : State) (r : Response) : (s.takeResponse r).pending = s.pending := by
  have spill := (s.spillResponse_keeps r.tag r.status).pending
  unfold State.takeResponse
  split
  · dsimp only
    split
    · exact spill
    · exact (State.orphanResponse_keeps _ r).pending.trans spill
  · exact s.memoryResponse_pending r

/-- Reported, withdrawn or cut, an expired entry's OVERDUE observation leaves the queue, and so does its release. -/
theorem State.expireEntry_pending (s : State) (e : Entry) : (s.expireEntry e).pending = s.pending := by
  unfold State.expireEntry
  split
  · exact (State.observe_keeps _ _ _).pending
  · split <;> exact (State.observe_keeps _ _ _).pending
  · rfl

theorem State.expireAt_pending (s : State) (k : Key) (age : Nat) : (s.expireAt k age).pending = s.pending := by
  unfold State.expireAt
  split
  · exact State.whenDue_kept (P := fun t => t.pending = s.pending) (fun _ => s.expireEntry_pending _) rfl
  · rfl

/-! ## The resets and the frames -/

theorem State.fullResetEffect_pending (s : State) (abandoned : Bool) :
    (s.fullResetEffect abandoned).pending = s.pending := by
  cases abandoned <;> rfl

theorem State.startQuiesce_pending (s : State) : s.startQuiesce.pending = s.pending := by
  unfold State.startQuiesce
  dsimp only
  split
  · exact State.fullResetEffect_pending _ _
  · rfl

theorem State.frame_pending {s : State} (f : Frame) (need : Nat) {act : State → State × Result}
    (hact : (act s).1.pending = s.pending) : (s.frame f need act).pending = s.pending :=
  State.frame_kept (P := fun t => t.pending = s.pending) f need id (fun _ h _ => h) (fun _ => hact) rfl

theorem State.doneFrame_pending {s : State} (f : Frame) (need : Nat) {act : State → State}
    (hact : (act s).pending = s.pending) : (s.doneFrame f need act).pending = s.pending :=
  State.frame_pending f need hact

theorem State.readFrame_pending (s : State) (f : Frame) (w : Option Word) : (s.readFrame f w).pending = s.pending := by
  unfold State.readFrame
  repeat' split
  all_goals rfl

theorem State.statusFrame_pending (s : State) (f : Frame) (i : BitVec 16) : (s.statusFrame f i).pending = s.pending := by
  unfold State.statusFrame
  dsimp only
  repeat' split
  all_goals rfl

theorem State.recordFrame_pending (s : State) (f : Frame) (o : BitVec 16) (k : Option Nat) :
    (s.recordFrame f o k).pending = s.pending := by
  unfold State.recordFrame
  repeat' split
  all_goals rfl

/-! ## Every command -/

/-- No event of the part changes the queue. -/
theorem Instr.effect_pending (c : Instr) (s : State) : (Instr.effect c s).pending = s.pending := by
  have whenDue : ∀ {due : Bool} {k : State → State}, (k s).pending = s.pending →
      (s.whenDue due k).pending = s.pending := fun hk =>
    State.whenDue_kept (P := fun t => t.pending = s.pending) (fun _ => hk) rfl
  cases c with
  | requestPresented r => exact s.presentRequest_pending r
  | take => exact s.takePresented_pending
  | holdExpiry => exact whenDue s.expireHold_keeps.pending
  | grant => exact s.arbitrate_pending
  | dPortTake => exact s.takeDownstream_pending
  | dPortResponse r => exact s.takeResponse_pending r
  | overdueExpiry i t a => exact s.expireAt_pending ⟨i, t⟩ a
  | fullReset f => exact State.doneFrame_pending f 1 s.startQuiesce_pending
  | quiesceComplete => exact whenDue (s.fullResetEffect_pending false)
  | quiesceAbandon => exact whenDue (s.abandonTable.fullResetEffect_pending true)
  | porRstn => rfl
  | stageTimeout => exact whenDue (s.enterStage_pending 0)
  | triginEdge l => exact (s.triginRise_keeps l).pending
  | trigoutPulseEnd => exact whenDue s.endTrigout_pending
  | readActive f i => exact s.readFrame_pending f _
  | readStaged f i => exact s.readFrame_pending f _
  | writeStaged f i w => exact State.frame_pending f _ (s.writeStagedWord_keeps i w).pending
  | readStatus f i => exact s.statusFrame_pending f i
  | rawTimeSnapshot f => exact s.statusFrame_pending f rawTimeIndex
  | apply f => exact State.frame_pending f 1 s.applyCommand_keeps.pending
  | applyTakesEffect => exact s.takeDueApply_keeps.pending
  | arm f => exact State.frame_pending f 1 s.armUnit_keeps.pending
  | disarm f => exact State.doneFrame_pending f 1 s.disarmUnit_keeps.pending
  | force f => exact State.frame_pending f 1 (s.forceUnit_keeps _).pending
  | alignOnce f => exact State.doneFrame_pending f 1 s.armOnce_pending
  | clearCounters f => exact State.doneFrame_pending f 1 s.clearCounters_pending
  | ackConditions f m => exact State.doneFrame_pending f _ rfl
  | writeAlertEnable f m => exact State.doneFrame_pending f _ rfl
  | readRecord f o k => exact s.recordFrame_pending f o k
  | discardHead f => exact State.frame_pending f 1 s.discardHead_keeps.pending
  | spillResume f => exact State.frame_pending f 1 s.spillResume_keeps.pending
  | spillSkip f => exact State.frame_pending f 1 s.spillSkip_keeps.pending
  | captureReset f => exact State.doneFrame_pending f 1 s.captureReset_keeps.pending
  | syncPulse l => exact (s.syncinRise_keeps l).pending
  | lossWatchExpiry => exact whenDue s.loseSync_keeps.pending
  | unknownCommandByte f b => exact State.frame_pending f 1 rfl
  | resetEnd => rfl

/-- Settles O3: POR/RSTN and RESET_END are record updates that keep the queue; any other command is, while the part is held,
nothing or a presented request, and else its effect after a due apply. -/
theorem queueIsLeftAlone : Obligations.QueueIsLeftAlone := by
  intro c s
  by_cases hp : c = .porRstn
  · exact ⟨s.powerOn, by rw [hp]; rfl, rfl⟩
  by_cases hr : c = .resetEnd
  · exact ⟨s.whenDue s.held State.endReset, by rw [hr]; rfl,
      State.whenDue_kept (P := fun t => t.pending = s.pending) (fun _ => s.endReset_pending) rfl⟩
  cases hh : s.held with
  | true =>
    rcases exec_held hh hp hr with unchanged | ⟨r, presented⟩
    · exact ⟨s, unchanged, rfl⟩
    · exact ⟨s.presentRequest r, presented, s.presentRequest_pending r⟩
  | false =>
    refine ⟨Instr.effect c s.beginEvent.takeDueApply, exec_eq_effect hh hp hr, ?_⟩
    calc (Instr.effect c s.beginEvent.takeDueApply).pending
        = s.beginEvent.takeDueApply.pending := Instr.effect_pending c _
      _ = s.beginEvent.pending := s.beginEvent.takeDueApply_keeps.pending
      _ = s.pending := s.beginEvent_pending

end Sys2Proof.Machine
end
